-- ==== Sys2Proof/Word.lean ====
section
/-! DEFINITION. The word types of the block: every quantity of the protocol is an unsigned byte (R9, R117), and the
two widest registers, WAIT and G_CNT, are 32 bits (R27, R29). -/

namespace Sys2Proof

/-- A byte, bits 7 down to 0, always unsigned (R9). -/
abbrev Byte := BitVec 8

/-- The width of WAIT and G_CNT (R27, R29). -/
abbrev Word32 := BitVec 32

end Sys2Proof
end

