-- ==== Sys2Proof/Config.lean ====
section
/-! DEFINITION. The constants the source fixes (R7), the choices the spec makes for open ones (R8), the OPEN parameters
of a machine (R8, D10, D11), and the free values that stand for what the spec calls unspecified (R31, R37, U5). -/

namespace Sys2Proof

/-- The seven operations a host can start (R22, R90). -/
inductive Op where
  | readReg
  | readEeprom
  | writeReg
  | writeEeprom
  | shortPush
  | longPush
  | probe
  deriving DecidableEq, Repr, Inhabited

/-- The OPEN parameters of the block (R8, D10, D11): no value is chosen for them anywhere in the model. -/
structure Config where
  /-- command byte of the probe frame (PROBE_CMD, D10) -/
  probeCmd : Byte
  /-- location byte of the probe frame (PROBE_LOC, D10) -/
  probeLoc : Byte
  /-- data byte of the probe frame (PROBE_DATA, D10) -/
  probeData : Byte
  /-- device-reported checksum error (CODE_CHECKSUM, D11) -/
  codeChecksum : Byte
  /-- device did not recognise the command (CODE_UNRECOGNIZED, D11) -/
  codeUnrecognized : Byte
  /-- no processor reply (CODE_NO_REPLY, D11) -/
  codeNoReply : Byte
  /-- reply error (CODE_REPLY_ERROR, D11) -/
  codeReplyError : Byte
  deriving DecidableEq, Repr, Inhabited

namespace Config

/-- FRAME_LEN (R7): bytes in a request frame. -/
abbrev frameLen : Nat := 4
/-- RESP_LEN (R7): bytes read as the response of a read operation. -/
abbrev respLen : Nat := 2
/-- PROBE_RESP_LEN (R7): bytes read as the response of PROBE. -/
abbrev probeRespLen : Nat := 1
/-- RETRY_BUDGET (R7): no-progress attempts allowed in one channel call. -/
abbrev retryBudget : Nat := 10
/-- WAIT_DEFAULT (R7, R8): 10 seconds, in TICKs. -/
abbrev waitDefault : Nat := 10000
/-- SETTLE_TICKS (R8, D21): the settle delay, in TICKs. DESIGN CHOICE of the spec for "~200 ms" (log 12). -/
abbrev settleTicks : Nat := 200

/-- SUCCESS_MARK (R7). -/
abbrev successMark : Byte := 0xC8
/-- CODE_TIMEOUT (R7). -/
abbrev codeTimeout : Byte := 0x81
/-- PROBE_OK (R7). -/
abbrev probeOkMark : Byte := 0x80
/-- CMD_READ_REG (R7). -/
abbrev cmdReadReg : Byte := 0x14
/-- CMD_READ_EEPROM (R7). -/
abbrev cmdReadEeprom : Byte := 0x48
/-- CMD_WRITE_REG (R7). -/
abbrev cmdWriteReg : Byte := 0x98
/-- CMD_WRITE_EEPROM (R7). -/
abbrev cmdWriteEeprom : Byte := 0xCA
/-- CMD_PUSH (R7). -/
abbrev cmdPush : Byte := 0x57
/-- PUSH_SHORT (R7). -/
abbrev pushShort : Byte := 0x01
/-- PUSH_LONG (R7). -/
abbrev pushLong : Byte := 0x02
/-- CHECK_MASK (R7). -/
abbrev checkMask : Byte := 0xFF
/-- READ_FILL (R8, D8): the data byte of a read frame. DESIGN CHOICE of the spec (log 18). -/
abbrev readFill : Byte := 0x00
/-- PUSH_LOC (R8, D9): the location byte of a push frame. DESIGN CHOICE of the spec (log 18). -/
abbrev pushLoc : Byte := 0x00

/-- What R8 and D11 require of the four OPEN error codes: pairwise distinct, and distinct from SUCCESS_MARK and
CODE_TIMEOUT. The codec is a function of any `Config` (R114); a machine has only an admissible one (U11; log 8). -/
abbrev Admissible (c : Config) : Prop :=
  [successMark, codeTimeout, c.codeChecksum, c.codeUnrecognized, c.codeNoReply, c.codeReplyError].Nodup

/-- The probe frame is the frame of no other operation. The spec asks for no such thing ("an overlap of this pattern
with another row has no effect on the block", opcode_table.json); only reading the frame back needs it (log 14). -/
abbrev ProbeClear (c : Config) : Prop :=
  c.probeCmd ∉ [cmdReadReg, cmdReadEeprom, cmdWriteReg, cmdWriteEeprom] ∧
    ¬ (c.probeCmd = cmdPush ∧ c.probeData ∈ [pushShort, pushLong])

/-- Free bytes: the n-th draw of a byte the spec calls unspecified (R31, R37, U5; log 6). -/
opaque freeByte : Nat → Byte
/-- Free operation selectors: CUR_OP after the event RESET (R37, U5; log 4, 6). -/
opaque freeOp : Nat → Op
/-- Free 32-bit words: G_CNT after the event RESET (R37, U5; log 4, 6). -/
opaque freeWord32 : Nat → Word32

end Config

/-- The OPEN parameters a machine can have: any other configuration is refused, by the type (R8, D11, U11; log 8). -/
structure AdmissibleConfig extends Config where
  /-- what D11 requires -/
  admissible : toConfig.Admissible
  deriving DecidableEq, Repr

/-- The seven bytes as the configuration of a machine; an inadmissible one is refused (U11). -/
def Config.accept (c : Config) : Option AdmissibleConfig := if h : c.Admissible then some ⟨c, h⟩ else none

/-- Some admissible configuration, where there is one: no body, so that nothing in Lean can learn a value (log 7). -/
opaque Config.someAdmissible [Inhabited AdmissibleConfig] : AdmissibleConfig

/-- The OPEN parameters of the machine at hand. The bytes written here only show that there is an admissible
configuration; which one the machine has, they do not say, and nothing but its admissibility can be proved (log 7). -/
def Config.machine : AdmissibleConfig :=
  @Config.someAdmissible ⟨⟨0x00, 0x00, 0x00, 0x01, 0x02, 0x03, 0x04⟩, by decide⟩

end Sys2Proof
end

