-- ==== Sys2Proof/Syntax.lean ====
section
/-! DEFINITION. One constructor per row of spec/opcode_table.json: the seven request frames (R85) and the eight
response formats (R86). -/

namespace Sys2Proof

/-- What travels on the link, by name. A request is what the host can start (R170 to R177); a response is what a
completed read_exact has taken from the RX stream (R178). -/
inductive Instr where
  /-- READ_REG loc (R171) -/
  | readReg (loc : Byte)
  /-- READ_EEPROM loc (R172) -/
  | readEeprom (loc : Byte)
  /-- WRITE_REG loc, byte (R173) -/
  | writeReg (loc : Byte) (byte : Byte)
  /-- WRITE_EEPROM loc, byte (R174) -/
  | writeEeprom (loc : Byte) (byte : Byte)
  /-- SHORT_PUSH (R175) -/
  | shortPush
  /-- LONG_PUSH (R176) -/
  | longPush
  /-- PROBE (R177) -/
  | probe
  /-- C8 v: the device's data byte (R86, R114) -/
  | respSuccess (v : Byte)
  /-- 81 x: the device's own timeout (R86, R114); x is ignored -/
  | respDevTimeout (x : Byte)
  /-- CODE_CHECKSUM x (R86, R114); x is ignored -/
  | respDevChecksum (x : Byte)
  /-- CODE_UNRECOGNIZED x (R86, R114); x is ignored -/
  | respDevUnrecognized (x : Byte)
  /-- CODE_NO_REPLY x (R86, R114); x is ignored -/
  | respDevNoReply (x : Byte)
  /-- CODE_REPLY_ERROR x (R86, R114); x is ignored -/
  | respDevReplyError (x : Byte)
  /-- any other first byte (R86, R88, R114); x is ignored -/
  | respDevOther (code : Byte) (x : Byte)
  /-- 80, the one byte that makes PROBE succeed (R83, R116) -/
  | respProbeOk
  deriving DecidableEq, Repr

end Sys2Proof
end

