-- ==== Sys2Proof/WellFormed.lean ====
section
/-! DEFINITION. Which terms of Instr stand for a row of the table. Every operand of every row may be any byte (R84,
R87, R88), except the first byte of RESP_DEV_OTHER, the default row: it is none of the six named first bytes (R86). -/

namespace Sys2Proof

/-- The first bytes that have a row of their own in the table of R86. -/
abbrev Config.namedCodes (c : Config) : List Byte :=
  [Config.successMark, Config.codeTimeout, c.codeChecksum, c.codeUnrecognized, c.codeNoReply, c.codeReplyError]

/-- The well-formedness check, under the OPEN parameters of the machine. -/
def Instr.wf (c : Config) : Instr → Bool
  | .respDevOther code _ => !(c.namedCodes.contains code)
  | .readReg _ | .readEeprom _ | .writeReg _ _ | .writeEeprom _ _ | .shortPush | .longPush | .probe => true
  | .respSuccess _ | .respDevTimeout _ | .respDevChecksum _ | .respDevUnrecognized _ => true
  | .respDevNoReply _ | .respDevReplyError _ | .respProbeOk => true

end Sys2Proof
end

