-- ==== Sys2Proof/Decode.lean ====
section
/-! DEFINITION. The frame format and its checksum (R80, R81, R110 to R113), the decoder of request frames and responses,
total on any bytes and rejecting by name (R85, R86, R88), the encoder (R84), and the host's operation selector (R90). -/

namespace Sys2Proof

/-! ## Format REQ -/

/-- A request frame, FR[0] to FR[3] in wire order (R80, R54). -/
structure Frame where
  command : Byte
  location : Byte
  data : Byte
  checksum : Byte
  deriving DecidableEq, Repr, Inhabited

/-- The four bytes in the order they go on TX (R54). -/
def Frame.bytes (f : Frame) : List Byte := [f.command, f.location, f.data, f.checksum]

/-- `encode(command, location, data)` of R110: the checksum covers the command byte only (R81). -/
def frameEncode (command location data : Byte) : Frame :=
  { command := command, location := location, data := data, checksum := command ^^^ Config.checkMask }

/-- `frame_check` of R112: looks at bytes 0 and 3 only. -/
def frameCheck (f : Frame) : Bool := f.checksum == f.command ^^^ Config.checkMask

/-- Why bytes are the encoding of no row. -/
inductive DecodeError where
  /-- not 4, 2 or 1 bytes long (R89) -/
  | badLength (n : Nat)
  /-- byte 3 is not byte 0 XOR FF (R112) -/
  | badChecksum
  /-- a command byte of none of the seven frames (R87) -/
  | unknownCommand (command : Byte)
  /-- command 57 with a data byte that is neither 01 nor 02 (R85) -/
  | badPushData (data : Byte)
  /-- a RESP1 byte other than 80 (R83, R116) -/
  | notProbeOk (b : Byte)
  deriving DecidableEq, Repr

/-- `frame_parse` of R113: the triple (command, location, data), or the verdict bad_checksum. -/
def frameParse (f : Frame) : Except DecodeError (Byte × Byte × Byte) :=
  if frameCheck f then .ok (f.command, f.location, f.data) else .error .badChecksum

/-- The fixed probe frame under the OPEN parameters (R84, D10). -/
def probeFrame (c : Config) : Frame := frameEncode c.probeCmd c.probeLoc c.probeData

/-! ## Decoding -/

/-- A request frame read by the table of R85. A byte the row's mask does not cover is not looked at. The six rows with
a numeric match come before PROBE, whose bytes are OPEN (log 14). -/
def decodeRequest (c : Config) (f : Frame) : Except DecodeError Instr :=
  if !frameCheck f then .error .badChecksum
  else if f.command = Config.cmdReadReg then .ok (.readReg f.location)
  else if f.command = Config.cmdReadEeprom then .ok (.readEeprom f.location)
  else if f.command = Config.cmdWriteReg then .ok (.writeReg f.location f.data)
  else if f.command = Config.cmdWriteEeprom then .ok (.writeEeprom f.location f.data)
  else if f.command = Config.cmdPush ∧ f.data = Config.pushShort then .ok .shortPush
  else if f.command = Config.cmdPush ∧ f.data = Config.pushLong then .ok .longPush
  else if f = probeFrame c then .ok .probe
  else if f.command = Config.cmdPush then .error (.badPushData f.data)
  else .error (.unknownCommand f.command)

/-- A RESP2 response read by the table of R86, in the order of the tests of R114; total (R88). -/
def decodeResp2 (c : Config) (code v : Byte) : Instr :=
  if code = Config.successMark then .respSuccess v
  else if code = Config.codeTimeout then .respDevTimeout v
  else if code = c.codeChecksum then .respDevChecksum v
  else if code = c.codeUnrecognized then .respDevUnrecognized v
  else if code = c.codeNoReply then .respDevNoReply v
  else if code = c.codeReplyError then .respDevReplyError v
  else .respDevOther code v

/-- `probe_ok` of R116. -/
def probeOk (b : Byte) : Bool := b == Config.probeOkMark

/-- A RESP1 response (R83): only 80 has a row. -/
def decodeResp1 (b : Byte) : Except DecodeError Instr :=
  if probeOk b then .ok .respProbeOk else .error (.notProbeOk b)

/-- The decoder on any bytes: the length alone says which format they are in (R89, R93). -/
def decodeBytes (c : Config) : List Byte → Except DecodeError Instr
  | [b] => decodeResp1 b
  | [code, v] => .ok (decodeResp2 c code v)
  | [command, location, data, checksum] => decodeRequest c ⟨command, location, data, checksum⟩
  | bs => .error (.badLength bs.length)

/-! ## Encoding -/

/-- The bytes of an instruction, in wire order (R84 for requests, R82, R83, R86 for responses). -/
def encode (c : Config) : Instr → List Byte
  | .readReg loc => (frameEncode Config.cmdReadReg loc Config.readFill).bytes
  | .readEeprom loc => (frameEncode Config.cmdReadEeprom loc Config.readFill).bytes
  | .writeReg loc byte => (frameEncode Config.cmdWriteReg loc byte).bytes
  | .writeEeprom loc byte => (frameEncode Config.cmdWriteEeprom loc byte).bytes
  | .shortPush => (frameEncode Config.cmdPush Config.pushLoc Config.pushShort).bytes
  | .longPush => (frameEncode Config.cmdPush Config.pushLoc Config.pushLong).bytes
  | .probe => (probeFrame c).bytes
  | .respSuccess v => [Config.successMark, v]
  | .respDevTimeout x => [Config.codeTimeout, x]
  | .respDevChecksum x => [c.codeChecksum, x]
  | .respDevUnrecognized x => [c.codeUnrecognized, x]
  | .respDevNoReply x => [c.codeNoReply, x]
  | .respDevReplyError x => [c.codeReplyError, x]
  | .respDevOther code x => [code, x]
  | .respProbeOk => [Config.probeOkMark]

/-! ## The operation selector of START -/

/-- The 3-bit selector of an operation (R90, D23). -/
def selectorOf : Op → BitVec 3
  | .readReg => 0
  | .readEeprom => 1
  | .writeReg => 2
  | .writeEeprom => 3
  | .shortPush => 4
  | .longPush => 5
  | .probe => 6

/-- The operation a selector names; 7 is reserved (R22, R90, U3). -/
def opOfSelector (sel : BitVec 3) : Option Op :=
  if sel = 0 then some .readReg
  else if sel = 1 then some .readEeprom
  else if sel = 2 then some .writeReg
  else if sel = 3 then some .writeEeprom
  else if sel = 4 then some .shortPush
  else if sel = 5 then some .longPush
  else if sel = 6 then some .probe
  else none

/-- The request an operation makes of the operands given with START; an operand the operation does not have is ignored
(R90). -/
def requestOf (op : Op) (loc data : Byte) : Instr :=
  match op with
  | .readReg => .readReg loc
  | .readEeprom => .readEeprom loc
  | .writeReg => .writeReg loc data
  | .writeEeprom => .writeEeprom loc data
  | .shortPush => .shortPush
  | .longPush => .longPush
  | .probe => .probe

/-- The request that START(op, loc, data) names (R170, R90). -/
def decodeStart (sel : BitVec 3) (loc data : Byte) : Option Instr :=
  (opOfSelector sel).map fun op => requestOf op loc data

/-- The operation of a request; a response has none. -/
def opOf : Instr → Option Op
  | .readReg _ => some .readReg
  | .readEeprom _ => some .readEeprom
  | .writeReg _ _ => some .writeReg
  | .writeEeprom _ _ => some .writeEeprom
  | .shortPush => some .shortPush
  | .longPush => some .longPush
  | .probe => some .probe
  | .respSuccess _ | .respDevTimeout _ | .respDevChecksum _ | .respDevUnrecognized _ => none
  | .respDevNoReply _ | .respDevReplyError _ | .respDevOther _ _ | .respProbeOk => none

/-- The location operand of a request, 00 where it has none. -/
def locOf : Instr → Byte
  | .readReg loc | .readEeprom loc | .writeReg loc _ | .writeEeprom loc _ => loc
  | .shortPush | .longPush | .probe => 0
  | .respSuccess _ | .respDevTimeout _ | .respDevChecksum _ | .respDevUnrecognized _ => 0
  | .respDevNoReply _ | .respDevReplyError _ | .respDevOther _ _ | .respProbeOk => 0

/-- The data operand of a request, 00 where it has none. -/
def dataOf : Instr → Byte
  | .writeReg _ byte | .writeEeprom _ byte => byte
  | .readReg _ | .readEeprom _ | .shortPush | .longPush | .probe => 0
  | .respSuccess _ | .respDevTimeout _ | .respDevChecksum _ | .respDevUnrecognized _ => 0
  | .respDevNoReply _ | .respDevReplyError _ | .respDevOther _ _ | .respProbeOk => 0

/-! ## Words of the opcode table -/

/-- The n bytes of a table word in wire order: byte 0 is the most significant (R9). -/
def wordBytes : Nat → Nat → List Byte
  | 0, _ => []
  | n + 1, w => BitVec.ofNat 8 (w / 256 ^ n) :: wordBytes n w

/-- The instruction read from a word numbered as spec/opcode_table.json numbers it (R9: W[31:24] is frame byte 0, V[15:8]
response byte 0). -/
def decodeTableWord (nbits w : Nat) : Option Instr :=
  match decodeBytes Config.machine.toConfig (wordBytes (nbits / 8) w) with
  | .ok i => some i
  | .error _ => none

end Sys2Proof
end

