-- ==== Sys2Proof/Machine/State.lean ====
section
/-! DEFINITION. The state of the block as plain data (R20 to R38), the events that move it (R11), the reasons a step can
stop, and the state after reset (R37). -/

namespace Sys2Proof.Machine

/-- PHASE, the sequencer (R21). -/
inductive Phase where
  /-- no operation in flight -/
  | idle
  /-- write_all in progress, one write attempt outstanding -/
  | tx
  /-- the write succeeded, the settle delay is running -/
  | settle
  /-- read_exact in progress, one read attempt outstanding -/
  | rx
  deriving DecidableEq, Repr

/-- STATUS, the closed enumeration of R30. -/
inductive Status where
  /-- no operation has completed since RESET or the last START -/
  | none
  /-- the operation succeeded -/
  | ok
  /-- the link reported an error on an attempt -/
  | ioError
  /-- the retry budget ran out before the transfer was complete -/
  | incomplete
  /-- the timeout guard fired -/
  | timeout
  /-- the device answered with CODE_TIMEOUT; not TIMEOUT (R242) -/
  | devTimeout
  /-- the device answered with CODE_CHECKSUM -/
  | devChecksum
  /-- the device answered with CODE_UNRECOGNIZED -/
  | devUnrecognized
  /-- the device answered with CODE_NO_REPLY -/
  | devNoReply
  /-- the device answered with CODE_REPLY_ERROR -/
  | devReplyError
  /-- the first response byte was none of the named ones -/
  | devOther
  /-- PROBE read a byte other than PROBE_OK -/
  | testFailed
  deriving DecidableEq, Repr

/-- RB, the response buffer of two bytes (R25). -/
structure RespBuf where
  b0 : Byte
  b1 : Byte
  deriving DecidableEq, Repr

/-- The events of R11, one per step. -/
inductive Event where
  /-- START(op, loc, data), from the host; op is the 3-bit selector (R170, R90) -/
  | start (sel : BitVec 3) (loc : Byte) (data : Byte)
  /-- CFG_WAIT(v), from the host (R182) -/
  | cfgWait (v : Word32)
  /-- TX_ANS(k): the link accepted k bytes of what was offered (R134) -/
  | txAns (k : Nat)
  /-- TX_ERR: the link reported an error on a write attempt (R139) -/
  | txErr
  /-- RX_ANS(bs): the link delivered the next bytes of the RX stream (R144) -/
  | rxAns (bs : List Byte)
  /-- RX_ERR: the link reported an error on a read attempt (R150) -/
  | rxErr
  /-- TICK, from the time base: 1 ms (R11, D1) -/
  | tick
  /-- RESET (R280) -/
  | reset
  deriving DecidableEq, Repr

/-- The elements of R33 under their own names, then the link's side of the two streams, then the model's own fields. -/
structure State where
  /-- PHASE (R21) -/
  phase : Phase
  /-- CUR_OP (R22) -/
  curOp : Op
  /-- FR[0..3] (R23) -/
  fr : Frame
  /-- TX_OFF, 3 bits (R24) -/
  txOff : BitVec 3
  /-- RB[0..1] (R25) -/
  rb : RespBuf
  /-- RX_LEN, 2 bits (R25) -/
  rxLen : BitVec 2
  /-- RX_CNT, 2 bits (R25) -/
  rxCnt : BitVec 2
  /-- RETRIES, 4 bits (R26) -/
  retries : BitVec 4
  /-- G_ARMED (R27) -/
  gArmed : Bool
  /-- G_CNT, 32 bits (R27) -/
  gCnt : Word32
  /-- S_CNT, 8 bits (R28) -/
  sCnt : BitVec 8
  /-- WAIT, 32 bits (R29) -/
  wait : Word32
  /-- STATUS (R30) -/
  status : Status
  /-- VALUE (R31) -/
  value : Byte
  /-- the bytes of the TX stream the link has accepted, oldest first (R53, R134; log 9) -/
  txStream : List Byte
  /-- the bytes of the RX stream that read attempts have taken, oldest first (R53, R144; log 9) -/
  rxTaken : List Byte
  /-- the model's own: the inputs still to come, first one first (log 1) -/
  events : List Event
  /-- the model's own: which free value is drawn next (log 6) -/
  freeCount : Nat
  /-- the model's own: the OPEN parameters of this machine, admissible by their type, which no step changes (R8, R35, U11;
  log 7, 8) -/
  cfg : AdmissibleConfig
  deriving DecidableEq, Repr

/-- Reasons the machine stops with a fault. There are none: every failure the spec describes ends the operation in
flight and leaves the block usable (R159, R246), and what has no meaning is refused (log 13). -/
inductive Fault where
  deriving DecidableEq, Repr

/-- Reasons a step has no meaning. Each is safe: the model stops where the spec gives no step (R11, U1 to U4). -/
inductive Refusal where
  /-- raised by exec for an instruction without a meaning; no arm raises it; safe -/
  | notModelled (mnemonic : String)
  /-- raised by step when no event is pending: the block moves only in answer to an event (R12; log 1); safe -/
  | noEvent
  /-- raised by START while PHASE is not IDLE (R181, U1); safe -/
  | startWhileBusy
  /-- raised by START with selector 7 (R22, U3); safe -/
  | reservedSelector
  /-- raised by CFG_WAIT while PHASE is not IDLE (R182, U2); safe -/
  | cfgWaitWhileBusy
  /-- raised by CFG_WAIT(0) (R29, R182, U2); safe -/
  | cfgWaitZero
  /-- raised by TX_ANS and TX_ERR while no write attempt is outstanding (R134, R139, U4); safe -/
  | noWriteAttempt
  /-- raised by TX_ANS(k) with k above what was offered (R134, U4); safe -/
  | writeAnswerTooLong
  /-- raised by RX_ANS and RX_ERR while no read attempt is outstanding (R144, R150, U4); safe -/
  | noReadAttempt
  /-- raised by RX_ANS with more bytes than were asked for (R144, U4); safe -/
  | readAnswerTooLong
  /-- raised by a response's meaning in a state where no response of its format is due for judgement (R178; log 15);
  no step of the machine raises it; safe -/
  | noResponseDue
  deriving DecidableEq, Repr

/-- The outcome of a step. -/
abbrev Result := Host.Outcome State Fault Refusal

/-- The block right after RESET (R37). CUR_OP, FR, RB, G_CNT, S_CNT and VALUE are unspecified there; the values here are
the model's DESIGN CHOICE (log 3) and no statement rests on them. -/
def State.reset : State where
  phase := .idle
  curOp := .readReg
  fr := ⟨0, 0, 0, 0⟩
  txOff := 0
  rb := ⟨0, 0⟩
  rxLen := 0
  rxCnt := 0
  retries := 0
  gArmed := false
  gCnt := 0
  sCnt := 0
  wait := BitVec.ofNat 32 Config.waitDefault
  status := .none
  value := 0
  txStream := []
  rxTaken := []
  events := []
  freeCount := 0
  cfg := Config.machine

end Sys2Proof.Machine
end

