-- ==== Sys2Proof/Machine/Operands.lean ====
section
/-! DEFINITION. What an operation makes of its operands (R84, R170), how long its response is (R25, R89), and what the
outstanding attempt offers or asks for (R158). -/

namespace Sys2Proof.Machine

/-- `frame_of(op, loc, data)`, the table of R170 and R84; always a result of encode. -/
def frameOf (c : Config) (op : Op) (loc data : Byte) : Frame :=
  match op with
  | .readReg => frameEncode Config.cmdReadReg loc Config.readFill
  | .readEeprom => frameEncode Config.cmdReadEeprom loc Config.readFill
  | .writeReg => frameEncode Config.cmdWriteReg loc data
  | .writeEeprom => frameEncode Config.cmdWriteEeprom loc data
  | .shortPush => frameEncode Config.cmdPush Config.pushLoc Config.pushShort
  | .longPush => frameEncode Config.cmdPush Config.pushLoc Config.pushLong
  | .probe => probeFrame c

/-- The two operations whose response has the format RESP2 (R82). -/
def isReadOp : Op → Bool
  | .readReg | .readEeprom => true
  | .writeReg | .writeEeprom | .shortPush | .longPush | .probe => false

/-- RX_LEN as START sets it (R170, R89). -/
def rxLenOf : Op → BitVec 2
  | .readReg | .readEeprom => BitVec.ofNat 2 Config.respLen
  | .probe => BitVec.ofNat 2 Config.probeRespLen
  | .writeReg | .writeEeprom | .shortPush | .longPush => 0

/-- What is outstanding at the link (R158). -/
inductive Attempt where
  /-- an offer of these bytes -/
  | offer (bs : List Byte)
  /-- a request for up to n bytes -/
  | request (n : Nat)
  deriving DecidableEq, Repr

/-- FR[TX_OFF..3], the bytes a write attempt offers (R24, R158). -/
def offered (s : State) : List Byte := s.fr.bytes.drop s.txOff.toNat

/-- RX_LEN - RX_CNT, the bytes a read attempt asks for (R25, R158). -/
def requested (s : State) : Nat := s.rxLen.toNat - s.rxCnt.toNat

/-- The one attempt outstanding while a channel call is in progress, none otherwise (R158, R142). -/
def outstanding (s : State) : Option Attempt :=
  match s.phase with
  | .tx => some (.offer (offered s))
  | .rx => some (.request (requested s))
  | .idle | .settle => none

end Sys2Proof.Machine
end

