-- ==== Sys2Proof/Machine/Flags.lean ====
section
/-! DEFINITION. The flags of the block: BUSY (R32), the codes of STATUS and PHASE (R21, R30), the two classifications
of STATUS (R253), which operation can report which STATUS (R183), and what the host can read (R33). -/

namespace Sys2Proof.Machine

/-- BUSY = (PHASE != IDLE), derived and not stored (R32). -/
def busy (s : State) : Bool := s.phase != .idle

/-- The 2-bit code of PHASE (R21, D23). -/
def phaseCode : Phase → BitVec 2
  | .idle => 0
  | .tx => 1
  | .settle => 2
  | .rx => 3

/-- The 4-bit code of STATUS (R30, D12); 5, 6, 7 and 15 are never used (U9). -/
def statusCode : Status → BitVec 4
  | .none => 0
  | .ok => 1
  | .ioError => 2
  | .incomplete => 3
  | .timeout => 4
  | .devTimeout => 8
  | .devChecksum => 9
  | .devUnrecognized => 10
  | .devNoReply => 11
  | .devReplyError => 12
  | .devOther => 13
  | .testFailed => 14

/-- The kinds of failure of R240, and what is none of them. -/
inductive Kind where
  | noResult
  | success
  | transport
  | protocol
  | logical
  deriving DecidableEq, Repr

/-- The kind of a STATUS (R253). The fourth kind, local, has no STATUS (R240). -/
def statusKind : Status → Kind
  | .none => .noResult
  | .ok => .success
  | .ioError | .incomplete | .timeout => .transport
  | .devTimeout | .devChecksum | .devUnrecognized | .devNoReply | .devReplyError | .devOther => .protocol
  | .testFailed => .logical

/-- The four result codes of R253 and R218. -/
inductive ExitClass where
  | success
  | communicationOrTimeout
  | localIo
  | logicalFailure
  deriving DecidableEq, Repr

/-- The exit class of a STATUS (R253, C5); NONE has none. -/
def exitClass : Status → Option ExitClass
  | .none => none
  | .ok => some .success
  | .ioError | .incomplete | .timeout => some .communicationOrTimeout
  | .devTimeout | .devChecksum | .devUnrecognized | .devNoReply | .devReplyError | .devOther => some .logicalFailure
  | .testFailed => some .logicalFailure

/-- The column "can raise" of R183. -/
def canRaise (op : Op) : List Status :=
  match op with
  | .readReg | .readEeprom =>
    [.ok, .ioError, .incomplete, .timeout, .devTimeout, .devChecksum, .devUnrecognized, .devNoReply, .devReplyError,
      .devOther]
  | .writeReg | .writeEeprom | .shortPush | .longPush => [.ok, .ioError, .incomplete, .timeout]
  | .probe => [.ok, .ioError, .incomplete, .timeout, .testFailed]

/-- The channel call in which a transport failure happened, read off the recorded counters (R241). -/
inductive Stage where
  | writeAll
  | readExact
  deriving DecidableEq, Repr

/-- TX_OFF < 4 means write_all, TX_OFF = 4 means read_exact (R241). -/
def failedStage (s : State) : Option Stage :=
  if statusKind s.status = .transport then
    some (if s.txOff.toNat < Config.frameLen then .writeAll else .readExact)
  else none

/-- Where R31 gives VALUE a meaning: after OK of a read, and after OK or TEST_FAILED of PROBE. -/
def valueDefined (s : State) : Bool :=
  s.phase == .idle &&
    ((isReadOp s.curOp && s.status == .ok) || (s.curOp == .probe && (s.status == .ok || s.status == .testFailed)))

/-- The elements marked "host R" in R33. -/
structure HostView where
  busy : Bool
  status : Status
  value : Byte
  wait : Word32
  rb : RespBuf
  txOff : BitVec 3
  rxCnt : BitVec 2
  retries : BitVec 4
  deriving DecidableEq, Repr

/-- What the host can read, at any time (R33, D2). VALUE means something only where `valueDefined` says so (R31). -/
def hostView (s : State) : HostView where
  busy := busy s
  status := s.status
  value := s.value
  wait := s.wait
  rb := s.rb
  txOff := s.txOff
  rxCnt := s.rxCnt
  retries := s.retries

end Sys2Proof.Machine
end

