-- ==== Sys2Proof/Machine/Ops.lean ====
section
/-! DEFINITION. The shared operations: the timeout guard (R131, R132), the completion rule (R246, the analogue of taking
an exception), the entries to write_all, settle and read_exact (R133, R141, R145), START (R170), the response buffer
(R146), and RESET (R280). -/

namespace Sys2Proof.Machine

/-- `arm()` (R131). -/
def arm (s : State) : State := { s with gArmed := true, gCnt := 0 }

/-- `disarm()` (R132). -/
def disarm (s : State) : State := { s with gArmed := false }

/-- VALUE becomes unspecified: a free value (R31, R246; log 5, 6). -/
def forgetValue (s : State) : State :=
  { s with value := Config.freeByte s.freeCount, freeCount := s.freeCount + 1 }

/-- The part of the completion rule that every `raise` shares (R246): the guard off, STATUS written, back to IDLE. -/
def finish (st : Status) (s : State) : State := { s with gArmed := false, status := st, phase := .idle }

/-- `raise s` where the raising rule says nothing of VALUE (R246): VALUE becomes unspecified. -/
def raise (st : Status) (s : State) : State := forgetValue (finish st s)

/-- `raise s` where the raising rule writes VALUE (R246, R178). -/
def raiseWithValue (st : Status) (v : Byte) (s : State) : State := { finish st s with value := v }

/-- The return from a completed operation: there is no return instruction, START sets STATUS back to NONE (R251). -/
def clearStatus (s : State) : State := { s with status := .none }

/-- Entry to write_all (R133). -/
def writeAllEntry (s : State) : State := { arm s with txOff := 0, retries := 0, phase := .tx }

/-- Success of write_all: the settle delay begins, outside the guard (R135, R141). -/
def settleEntry (s : State) : State := { disarm s with sCnt := 0, phase := .settle }

/-- Entry to read_exact(RX_LEN) (R145). RB is not cleared. -/
def readExactEntry (s : State) : State := { arm s with rxCnt := 0, retries := 0, phase := .rx }

/-- What START latches before the entry to write_all (R170, R22, R23, R25). -/
def latchRequest (op : Op) (loc data : Byte) (s : State) : State :=
  { s with curOp := op, fr := frameOf s.cfg.toConfig op loc data, rxLen := rxLenOf op, rxCnt := 0 }

/-- START(op, loc, data) (R170, R181): enabled only in IDLE; STATUS goes to NONE and VALUE becomes unspecified. -/
def startOp (op : Op) (loc data : Byte) (s : State) : Result :=
  match s.phase with
  | .idle => .next (writeAllEntry (forgetValue (clearStatus (latchRequest op loc data s))))
  | .tx | .settle | .rx => .refused .startWhileBusy

/-- RETRIES after an answer that moved k bytes: only no progress counts (R135, R146, R26). -/
def retriesAfter (s : State) (k : Nat) : Nat := s.retries.toNat + (if k = 0 then 1 else 0)

/-- RB[i] <- b (R25); there are two bytes. -/
def rbSet (rb : RespBuf) (i : Nat) (b : Byte) : RespBuf :=
  match i with
  | 0 => { rb with b0 := b }
  | 1 => { rb with b1 := b }
  | _ + 2 => rb

/-- RB[i + j] <- bs[j] for every j (R146). -/
def rbStore (rb : RespBuf) (i : Nat) : List Byte → RespBuf
  | [] => rb
  | b :: bs => rbStore (rbSet rb i b) (i + 1) bs

/-- The values R37 gives, and free values for the elements it calls unspecified (R280; log 4). The link, the inputs and
the OPEN parameters are not the block's, and stay (R282, R35). -/
def resetBlock (s : State) : State :=
  { s with
    phase := .idle
    curOp := Config.freeOp s.freeCount
    fr := ⟨Config.freeByte s.freeCount, Config.freeByte (s.freeCount + 1), Config.freeByte (s.freeCount + 2),
      Config.freeByte (s.freeCount + 3)⟩
    txOff := 0
    rb := ⟨Config.freeByte (s.freeCount + 4), Config.freeByte (s.freeCount + 5)⟩
    rxLen := 0
    rxCnt := 0
    retries := 0
    gArmed := false
    gCnt := Config.freeWord32 s.freeCount
    sCnt := Config.freeByte (s.freeCount + 6)
    wait := BitVec.ofNat 32 Config.waitDefault
    status := .none
    value := Config.freeByte (s.freeCount + 7)
    freeCount := s.freeCount + 8 }

end Sys2Proof.Machine
end

