-- ==== Sys2Proof/Machine/Channel.lean ====
section
/-! DEFINITION. The Reliable Channel event by event: the answers of the link to write_all (R134, R135, R139), the
delivery and the failures of read_exact (R144, R146, R150), TICK in every phase (R140, R142, R151, R152), and CFG_WAIT
(R182). -/

namespace Sys2Proof.Machine

/-- The counters and the TX stream after the link accepted k bytes (R134, R135): the offset accumulates. -/
def acceptBytes (k : Nat) (s : State) : State :=
  { s with
    txOff := BitVec.ofNat 3 (s.txOff.toNat + k)
    retries := BitVec.ofNat 4 (retriesAfter s k)
    txStream := s.txStream ++ (offered s).take k }

/-- TX_ANS(k) within its range, in PHASE TX (R135): completion is tested before the budget (D7). -/
def writeProgress (k : Nat) (s : State) : State :=
  if s.txOff.toNat + k = Config.frameLen then settleEntry (acceptBytes k s)
  else if retriesAfter s k = Config.retryBudget then raise .incomplete (disarm (acceptBytes k s))
  else acceptBytes k s

/-- TX_ANS(k) (R134, R135). -/
def txAns (k : Nat) (s : State) : Result :=
  match s.phase with
  | .tx => if s.txOff.toNat + k ≤ Config.frameLen then .next (writeProgress k s) else .refused .writeAnswerTooLong
  | .idle | .settle | .rx => .refused .noWriteAttempt

/-- TX_ERR (R139): reported immediately, no retry. -/
def txErr (s : State) : Result :=
  match s.phase with
  | .tx => .next (raise .ioError (disarm s))
  | .idle | .settle | .rx => .refused .noWriteAttempt

/-- RB, the counters and the RX stream after the link delivered bs (R144, R146). -/
def deliverBytes (bs : List Byte) (s : State) : State :=
  { s with
    rb := rbStore s.rb s.rxCnt.toNat bs
    rxCnt := BitVec.ofNat 2 (s.rxCnt.toNat + bs.length)
    retries := BitVec.ofNat 4 (retriesAfter s bs.length)
    rxTaken := s.rxTaken ++ bs }

/-- RX_ERR (R150): reported immediately, no retry. -/
def rxErr (s : State) : Result :=
  match s.phase with
  | .rx => .next (raise .ioError (disarm s))
  | .idle | .tx | .settle => .refused .noReadAttempt

/-- TICK while a channel call is in progress (R140, R151): the WAIT-th TICK after arm() raises TIMEOUT. -/
def guardTick (s : State) : State :=
  if s.gCnt.toNat + 1 = s.wait.toNat then raise .timeout (disarm s)
  else { s with gCnt := BitVec.ofNat 32 (s.gCnt.toNat + 1) }

/-- TICK in PHASE SETTLE (R142): the SETTLE_TICKS-th ends the delay. -/
def settleTick (s : State) : State :=
  if s.sCnt.toNat + 1 = Config.settleTicks then
    if s.rxLen = 0 then raise .ok s else readExactEntry s
  else { s with sCnt := BitVec.ofNat 8 (s.sCnt.toNat + 1) }

/-- TICK (R140, R142, R151, R152): enabled in every phase, and in IDLE it changes nothing. -/
def tick (s : State) : Result :=
  match s.phase with
  | .idle => .next s
  | .tx | .rx => .next (guardTick s)
  | .settle => .next (settleTick s)

/-- CFG_WAIT(v) (R182, R29): enabled only in IDLE and for v other than 0. -/
def cfgWait (v : Word32) (s : State) : Result :=
  match s.phase with
  | .idle => if v = 0 then .refused .cfgWaitZero else .next { s with wait := v }
  | .tx | .settle | .rx => .refused .cfgWaitWhileBusy

end Sys2Proof.Machine
end

