-- ==== Sys2Proof/Machine/Request.lean ====
section
/-! DEFINITION. The seven requests (R171 to R177). The effect of each is its START step (R170): the frame is loaded and
write_all is entered. The rest of the operation follows event by event (Machine/Channel.lean, Machine/Events.lean). -/

namespace Sys2Proof.Machine

/-- READ_REG loc (R171): frame 14 loc 00 EB, response RESP2. The data operand of START is ignored. -/
def execReadReg (loc : Byte) (s : State) : Result := startOp .readReg loc 0 s

/-- READ_EEPROM loc (R172): frame 48 loc 00 B7, response RESP2. -/
def execReadEeprom (loc : Byte) (s : State) : Result := startOp .readEeprom loc 0 s

/-- WRITE_REG loc, byte (R173): frame 98 loc byte 67, no response. -/
def execWriteReg (loc byte : Byte) (s : State) : Result := startOp .writeReg loc byte s

/-- WRITE_EEPROM loc, byte (R174): frame CA loc byte 35, no response. -/
def execWriteEeprom (loc byte : Byte) (s : State) : Result := startOp .writeEeprom loc byte s

/-- SHORT_PUSH (R175): frame 57 00 01 A8, no response. -/
def execShortPush (s : State) : Result := startOp .shortPush 0 0 s

/-- LONG_PUSH (R176): frame 57 00 02 A8, no response. -/
def execLongPush (s : State) : Result := startOp .longPush 0 0 s

/-- PROBE (R177): the fixed probe frame under the OPEN parameters, response RESP1. -/
def execProbe (s : State) : Result := startOp .probe 0 0 s

end Sys2Proof.Machine
end

