-- ==== Sys2Proof/Machine/Response.lean ====
section
/-! DEFINITION. The eight responses: the judgement of R178 on a response that read_exact has delivered whole, ending the
operation by the completion rule (R246). RB keeps the bytes. -/

namespace Sys2Proof.Machine

/-- read_exact has delivered all RX_LEN bytes and the response is due for judgement (R146, R178). -/
def responseComplete (s : State) : Bool := s.phase == .rx && s.rxCnt == s.rxLen

/-- A RESP2 response is due: the operation in flight is a read (R178, first branch). -/
def resp2Due (s : State) : Bool := responseComplete s && isReadOp s.curOp

/-- A RESP1 response is due: the operation in flight is no read, hence PROBE (R178, second branch). -/
def resp1Due (s : State) : Bool := responseComplete s && !isReadOp s.curOp

/-- `ok(v) -> VALUE <- v; raise OK` of R178. -/
def judgeOk (v : Byte) (s : State) : Result :=
  if resp2Due s then .next (raiseWithValue .ok v s) else .refused .noResponseDue

/-- `err(s) -> raise s` of R178. -/
def judgeErr (st : Status) (s : State) : Result :=
  if resp2Due s then .next (raise st s) else .refused .noResponseDue

/-- The second branch of R178 on the byte b = RB[0]: VALUE <- b on OK and on TEST_FAILED alike (R177). -/
def judgeProbe (b : Byte) (s : State) : Result :=
  if resp1Due s then .next (raiseWithValue (if probeOk b then .ok else .testFailed) b s) else .refused .noResponseDue

/-- RESP_SUCCESS: the second byte is the data (R114). -/
def execRespSuccess (v : Byte) (s : State) : Result := judgeOk v s

/-- RESP_DEV_TIMEOUT (R114, R242); the second byte is ignored. -/
def execRespDevTimeout (_x : Byte) (s : State) : Result := judgeErr .devTimeout s

/-- RESP_DEV_CHECKSUM (R114); the second byte is ignored. -/
def execRespDevChecksum (_x : Byte) (s : State) : Result := judgeErr .devChecksum s

/-- RESP_DEV_UNRECOGNIZED (R114); the second byte is ignored. -/
def execRespDevUnrecognized (_x : Byte) (s : State) : Result := judgeErr .devUnrecognized s

/-- RESP_DEV_NO_REPLY (R114); the second byte is ignored. -/
def execRespDevNoReply (_x : Byte) (s : State) : Result := judgeErr .devNoReply s

/-- RESP_DEV_REPLY_ERROR (R114); the second byte is ignored. -/
def execRespDevReplyError (_x : Byte) (s : State) : Result := judgeErr .devReplyError s

/-- RESP_DEV_OTHER, the default row (R114, R115); both bytes stay readable in RB only (R178). -/
def execRespDevOther (_code _x : Byte) (s : State) : Result := judgeErr .devOther s

/-- RESP_PROBE_OK (R116, R177): VALUE holds the byte read, which is 80. -/
def execRespProbeOk (s : State) : Result := judgeProbe Config.probeOkMark s

end Sys2Proof.Machine
end

