-- ==== Sys2Proof/Machine/Dispatch.lean ====
section
/-! DEFINITION. One arm per instruction. -/

namespace Sys2Proof.Machine

def exec (i : Instr) (s : State) : Host.Outcome State Fault Refusal :=
  match i with
  | .readReg loc => Sys2Proof.Machine.execReadReg loc s
  | .readEeprom loc => Sys2Proof.Machine.execReadEeprom loc s
  | .writeReg loc byte => Sys2Proof.Machine.execWriteReg loc byte s
  | .writeEeprom loc byte => Sys2Proof.Machine.execWriteEeprom loc byte s
  | .shortPush => Sys2Proof.Machine.execShortPush s
  | .longPush => Sys2Proof.Machine.execLongPush s
  | .probe => Sys2Proof.Machine.execProbe s
  | .respSuccess v => Sys2Proof.Machine.execRespSuccess v s
  | .respDevTimeout x => Sys2Proof.Machine.execRespDevTimeout x s
  | .respDevChecksum x => Sys2Proof.Machine.execRespDevChecksum x s
  | .respDevUnrecognized x => Sys2Proof.Machine.execRespDevUnrecognized x s
  | .respDevNoReply x => Sys2Proof.Machine.execRespDevNoReply x s
  | .respDevReplyError x => Sys2Proof.Machine.execRespDevReplyError x s
  | .respDevOther code x => Sys2Proof.Machine.execRespDevOther code x s
  | .respProbeOk => Sys2Proof.Machine.execRespProbeOk s

end Sys2Proof.Machine
end

