-- ==== Sys2Proof/Machine/Events.lean ====
section
/-! DEFINITION. One event, one step (R11, R180): START reads its request and runs it, the RX_ANS that completes
read_exact reads the response and runs its judgement (R146, R178), and the other events are the channel's. Beside them,
how a word of the opcode table becomes the next event. -/

namespace Sys2Proof.Machine

/-- START(sel, loc, data) (R170, R181): the selector and the operands name a request, which runs. -/
def startEvent (sel : BitVec 3) (loc data : Byte) (s : State) : Result :=
  match decodeStart sel loc data with
  | some i => exec i s
  | none => .refused .reservedSelector

/-- The judgement of a complete response (R178): a RESP2 response of a read, or the RESP1 response of PROBE, is read from
RB and runs. A RESP1 byte that is no row of the table is a failed probe (R116; log 16). -/
def judge (s : State) : Result :=
  if isReadOp s.curOp then exec (decodeResp2 s.cfg.toConfig s.rb.b0 s.rb.b1) s
  else
    match decodeResp1 s.rb.b0 with
    | .ok i => exec i s
    | .error _ => judgeProbe s.rb.b0 s

/-- RX_ANS(bs) within its range, in PHASE RX (R146): completion is tested before the budget (D7). -/
def readProgress (bs : List Byte) (s : State) : Result :=
  if s.rxCnt.toNat + bs.length = s.rxLen.toNat then judge (disarm (deliverBytes bs s))
  else if retriesAfter s bs.length = Config.retryBudget then .next (raise .incomplete (disarm (deliverBytes bs s)))
  else .next (deliverBytes bs s)

/-- RX_ANS(bs) (R144, R146). -/
def rxAns (bs : List Byte) (s : State) : Result :=
  match s.phase with
  | .rx => if s.rxCnt.toNat + bs.length ≤ s.rxLen.toNat then readProgress bs s else .refused .readAnswerTooLong
  | .idle | .tx | .settle => .refused .noReadAttempt

/-- The step of one event (R11, R180). -/
def applyEvent (e : Event) (s : State) : Result :=
  match e with
  | .start sel loc data => startEvent sel loc data s
  | .cfgWait v => cfgWait v s
  | .txAns k => txAns k s
  | .txErr => txErr s
  | .rxAns bs => rxAns bs s
  | .rxErr => rxErr s
  | .tick => tick s
  | .reset => .next (resetBlock s)

/-- One event is taken from the inputs and performed; with none pending there is no step (R12; log 1). -/
def takeEvent (s : State) : Result :=
  match s.events with
  | [] => .refused .noEvent
  | e :: rest => applyEvent e { s with events := rest }

/-! ## Words of the opcode table as inputs -/

/-- The START that names a request (R90, R170); for a response, and for bytes that are no request, the reserved selector
7, which has no step (log 2). -/
def startFor (i : Instr) : Event :=
  match opOf i with
  | some op => .start (selectorOf op) (locOf i) (dataOf i)
  | none => .start 7 0 0

/-- The block waiting for the first byte of the response of op, as R142 and R145 leave it, with nothing delivered yet
(log 2). -/
def awaitResponse (op : Op) (s : State) : State :=
  { s with
    phase := .rx
    curOp := op
    txOff := BitVec.ofNat 3 Config.frameLen
    rxLen := rxLenOf op
    rxCnt := 0
    retries := 0
    gArmed := true
    gCnt := 0
    status := .none }

/-- A word of the opcode table placed as the very next input (log 2): a 32-bit word is a request, which START names; a
16-bit word is the response of a read, delivered whole; an 8-bit word is the response of PROBE. -/
def placeWord (s : State) (nbits w : Nat) : State :=
  match nbits with
  | 8 => { awaitResponse .probe s with events := .rxAns (wordBytes 1 w) :: s.events }
  | 16 => { awaitResponse .readReg s with events := .rxAns (wordBytes 2 w) :: s.events }
  | _ =>
    match decodeBytes s.cfg.toConfig (wordBytes (nbits / 8) w) with
    | .ok i => { s with events := startFor i :: s.events }
    | .error _ => { s with events := .start 7 0 0 :: s.events }

end Sys2Proof.Machine
end

