-- ==== Sys2Proof/Machine/Step.lean ====
section
/-! DEFINITION. The step, and where a word of the opcode table stands so that the next step runs it. -/

namespace Sys2Proof.Machine

/-- One step: the next event of the inputs (R11). -/
def step (s : State) : Host.Outcome State Fault Refusal := takeEvent s

/-- `s` with the word `w` of the opcode table, `nbits` long, as the very next input (log 2). -/
def State.withFetchWord (s : State) (nbits w : Nat) : State := placeWord s nbits w

end Sys2Proof.Machine
end

