-- ==== Sys2Proof/Machine/Codec.lean ====
section
/-! DEFINITION. `decode_response` of the Frame Codec (R114), beside encode, frame_check, frame_parse and probe_ok, which
stand in Decode.lean. -/

namespace Sys2Proof.Machine

/-- What `decode_response` answers: the data byte, or one of the six DEV_ values of STATUS (R114). -/
inductive Response where
  | ok (v : Byte)
  | err (st : Status)
  deriving DecidableEq, Repr

/-- `decode_response(r)` of R114 on r = [r0, r1]; the first test that holds decides. -/
def decodeResponse (c : Config) (r0 r1 : Byte) : Response :=
  if r0 = Config.successMark then .ok r1
  else if r0 = Config.codeTimeout then .err .devTimeout
  else if r0 = c.codeChecksum then .err .devChecksum
  else if r0 = c.codeUnrecognized then .err .devUnrecognized
  else if r0 = c.codeNoReply then .err .devNoReply
  else if r0 = c.codeReplyError then .err .devReplyError
  else .err .devOther

end Sys2Proof.Machine
end

