-- ==== Sys2Proof/Machine/Commands.lean ====
section
/-! DEFINITION. The host's Command Set (R200 to R226): the programs over the block's operations, their value conversions
and the pseudo-operations (R92). It is host software, outside the block (R5); nothing of the block depends on it (log
19). -/

namespace Sys2Proof.Machine

/-- The number of bytes of the configuration block (R60). -/
abbrev configLen : Nat := 45

/-- The OPEN host-level constants (R60, R209, R210, D27). The three last fields refuse any other configuration, by the type:
a block that is not 45 locations long (D27), and a DIV of 0 (R220, U21). -/
structure HostConfig where
  /-- CONFIGURATION_START -/
  configStart : Byte
  /-- CONFIGURATION_END -/
  configEnd : Byte
  /-- REG_CINT -/
  regCint : Byte
  /-- REG_CEXT -/
  regCext : Byte
  /-- REG_LINT -/
  regLint : Byte
  /-- REG_LEXT -/
  regLext : Byte
  /-- EXTF_CHARGE_BIT -/
  extfChargeBit : Fin 8
  /-- EXTF_LOAD_BIT -/
  extfLoadBit : Fin 8
  /-- DIV of charge -/
  divCharge : Rat
  /-- DIV of load: the configuration may give DIV per command (R210) -/
  divLoad : Rat
  /-- END - START + 1 = 45 -/
  range : configStart.toNat + configLen = configEnd.toNat + 1
  /-- R220 -/
  divCharge_ne_zero : divCharge ≠ 0
  /-- R220 -/
  divLoad_ne_zero : divLoad ≠ 0
  deriving DecidableEq

/-! ## Scripts -/

/-- A host program over the block's operations. -/
inductive Script (α : Type) where
  /-- the command's result -/
  | done (a : α)
  /-- a local error of the host: file or clock (R218) -/
  | localError
  /-- run one operation; a STATUS other than OK ends the command at once (R216); VALUE goes to the rest -/
  | run (i : Instr) (rest : Byte → Script α)
  /-- attempt one operation and go on whatever its STATUS; a host that stops in it has the result of going on (R214) -/
  | attempt (i : Instr) (rest : Script α)
  /-- HOST_WAIT: the host lets `ms` milliseconds pass with the block idle; no operation (R92) -/
  | pause (ms : Nat) (rest : Script α)

/-- How a command ends. -/
inductive ScriptResult (α : Type) where
  | done (a : α)
  /-- ended by the first operation that failed (R216) -/
  | failed (st : Status)
  | localError
  /-- the operation in hand has not completed -/
  | unfinished
  deriving DecidableEq, Repr

/-- A command run against the outcomes (STATUS, VALUE) of its operations, in order: the operations it starts, and how it
ends (R216). Where the outcomes end, the operation started last is still in flight: the command is unfinished, except that
an attempted operation changes its result neither by its outcome nor by having none (R214). -/
def play {α : Type} : Script α → List (Status × Byte) → List Instr × ScriptResult α
  | .done a, _ => ([], .done a)
  | .localError, _ => ([], .localError)
  | .pause _ rest, outs => play rest outs
  | .run i _, [] => ([i], .unfinished)
  | .run i rest, (st, v) :: outs =>
    if st = .ok then
      let r := play (rest v) outs
      (i :: r.1, r.2)
    else ([i], .failed st)
  | .attempt i rest, [] => ([i], (play rest []).2)
  | .attempt i rest, _ :: outs =>
    let r := play rest outs
    (i :: r.1, r.2)

/-- A command of a host that stops when the last of these outcomes is in, before it starts another operation: the closing
writes of powercycle may be missing in whole or in part, and its result is there all the same (R214, U18). -/
def stopAfter {α : Type} (sc : Script α) (outs : List (Status × Byte)) : List Instr × ScriptResult α :=
  ((play sc outs).1.take outs.length, (play sc outs).2)

/-- What a host that sees BUSY = 0 takes as the outcome of its operation (R251). -/
def hostOutcome (s : State) : Option (Status × Byte) := if busy s then none else some (s.status, s.value)

/-- The exit class of a command (R218, R253); none while it is unfinished. -/
def scriptExitClass {α : Type} : ScriptResult α → Option ExitClass
  | .done _ => some .success
  | .failed st => exitClass st
  | .localError => some .localIo
  | .unfinished => none

/-! ## Value conversions -/

/-- A time of day as gettime reports it (R204); no range check is made. -/
structure TimeOfDay where
  hour : Nat
  minute : Nat
  second : Nat
  deriving DecidableEq, Repr

/-- R204: hour = h / 10, minute = (h % 10) * 6 + m, second = s. -/
def timeOf (h m s : Byte) : TimeOfDay where
  hour := h.toNat / 10
  minute := h.toNat % 10 * 6 + m.toNat
  second := s.toNat

/-- The host's wall clock (R205). -/
structure WallClock where
  day : Nat
  hour : Nat
  minute : Nat
  second : Nat
  deriving DecidableEq, Repr

/-- The ranges R205 gives for day, hour and minute. For the second it gives none: the model takes every second that the
byte of location 2E holds, a leap second 60 among them. DESIGN CHOICE (log 21). -/
abbrev WallClock.InRange (w : WallClock) : Prop :=
  1 ≤ w.day ∧ w.day ≤ 31 ∧ w.hour ≤ 23 ∧ w.minute ≤ 59 ∧ w.second ≤ 255

/-- The byte for location 31 (R205). -/
def dayCode (w : WallClock) : Byte := BitVec.ofNat 8 (w.day - 1)
/-- The byte for location 30 (R205). -/
def hourCode (w : WallClock) : Byte := BitVec.ofNat 8 (w.hour * 10 + w.minute / 6)
/-- The byte for location 2F (R205). -/
def minuteCode (w : WallClock) : Byte := BitVec.ofNat 8 (w.minute % 6)
/-- The byte for location 2E (R205); of a second above 255, which R205 does not rule out, its low eight bits (log 21). -/
def secondCode (w : WallClock) : Byte := BitVec.ofNat 8 w.second

/-- R206, in Ah: two ranges, with the discontinuity between 50 and 51. -/
def capacityOf (r : Byte) : Nat := if r.toNat ≤ 50 then r.toNat * 20 else (r.toNat - 50) * 100

/-- R207, in V: exact (R220). -/
def batteryVoltage (d r : Byte) : Rat := ((r.toNat * (d.toNat + 1) : Nat) : Rat) / 10

/-- R208, in V: exact (R220). -/
def solarVoltage (r : Byte) : Rat := (r.toNat : Rat) / 2

/-- The scale of the external reading (R209, R210): the flag bit selects 10 or 1. -/
def externalScale (flags : Byte) (bit : Fin 8) : Rat := if flags.getLsbD bit.val then 1 else 10

/-- i / DIV + e / scale (R209, R210), exact (R220). -/
def currentOf (div : Rat) (bit : Fin 8) (i e flags : Byte) : Rat :=
  (i.toNat : Rat) / div + (e.toNat : Rat) / externalScale flags bit

/-- The charging-algorithm phase (R211). -/
inductive RegulatorState where
  | boost
  | equalize
  | absorption
  | float
  deriving DecidableEq, Repr

/-- R211: the low two bits; bits 7 to 2 are ignored. -/
def regulatorState (r : Byte) : RegulatorState :=
  match r.toNat % 4 with
  | 0 => .boost
  | 1 => .equalize
  | 2 => .absorption
  | _ => .float

/-! ## The locations the source names (R59) and the macros (R92, R215) -/

/-- version -/
abbrev locVersion : Byte := 0x00
/-- battery voltage divisor -/
abbrev locDivisor : Byte := 0x20
/-- display wake and sleep -/
abbrev locDisplay : Byte := 0x29
/-- seconds -/
abbrev locSeconds : Byte := 0x2E
/-- minutes-remainder -/
abbrev locMinutes : Byte := 0x2F
/-- hour-tens-code -/
abbrev locHours : Byte := 0x30
/-- day -/
abbrev locDay : Byte := 0x31
/-- raw battery voltage -/
abbrev locBattery : Byte := 0x32
/-- solar voltage reading -/
abbrev locSolar : Byte := 0x35
/-- battery capacity code -/
abbrev locCapacity : Byte := 0x5E
/-- regulator state -/
abbrev locState : Byte := 0x65
/-- display channel select -/
abbrev locChannel : Byte := 0x66
/-- shared flags register of charge and load -/
abbrev locFlags : Byte := 0xCF

/-- DISPLAY_WAKE (R92, R215): WRITE_REG 29, 00 three times. -/
def displayWake {α : Type} (rest : Script α) : Script α :=
  .run (.writeReg locDisplay 0x00) fun _ => .run (.writeReg locDisplay 0x00) fun _ =>
    .run (.writeReg locDisplay 0x00) fun _ => rest

/-- DISPLAY_SLEEP (R92, R215): WRITE_REG 29, 10 three times. -/
def displaySleep {α : Type} (rest : Script α) : Script α :=
  .run (.writeReg locDisplay 0x10) fun _ => .run (.writeReg locDisplay 0x10) fun _ =>
    .run (.writeReg locDisplay 0x10) fun _ => rest

/-- The closing DISPLAY_SLEEP of powercycle: neither a failure of one of its writes nor a host that stops in it changes the
command's result (R214, U18). -/
def trySleep {α : Type} (rest : Script α) : Script α :=
  .attempt (.writeReg locDisplay 0x10) (.attempt (.writeReg locDisplay 0x10) (.attempt (.writeReg locDisplay 0x10) rest))

/-- SELECT_CHANNEL c (R92): WRITE_REG 66, c. -/
def selectChannel {α : Type} (c : Byte) (rest : Script α) : Script α := .run (.writeReg locChannel c) fun _ => rest

/-! ## The fourteen commands -/

/-- What a command reports. -/
inductive Report where
  | nothing
  | raw (v : Byte)
  | time (t : TimeOfDay)
  | ampHours (n : Nat)
  | volts (v : Rat)
  | amperes (a : Rat)
  | regulator (r : RegulatorState)
  | configuration (file : List Byte)
  deriving DecidableEq

/-- test (R201) -/
def scriptTest : Script Report := .run .probe fun _ => .done .nothing

/-- plversion (R202) -/
def scriptPlversion : Script Report := .run (.readReg locVersion) fun v => .done (.raw v)

/-- getday (R203) -/
def scriptGetday : Script Report := .run (.readReg locDay) fun v => .done (.raw v)

/-- gettime (R204) -/
def scriptGettime : Script Report :=
  .run (.readReg locHours) fun h => .run (.readReg locMinutes) fun m => .run (.readReg locSeconds) fun s =>
    .done (.time (timeOf h m s))

/-- setdaytime (R205); none is a clock that cannot be read. -/
def scriptSetdaytime : Option WallClock → Script Report
  | none => .localError
  | some w =>
    .run (.writeReg locDay (dayCode w)) fun _ => .run (.writeReg locHours (hourCode w)) fun _ =>
      .run (.writeReg locMinutes (minuteCode w)) fun _ => .run (.writeReg locSeconds (secondCode w)) fun _ =>
        .done .nothing

/-- batcapacity (R206) -/
def scriptBatcapacity : Script Report := .run (.readReg locCapacity) fun r => .done (.ampHours (capacityOf r))

/-- batvoltage (R207) -/
def scriptBatvoltage : Script Report :=
  .run (.readReg locDivisor) fun d => .run (.readReg locBattery) fun r => .done (.volts (batteryVoltage d r))

/-- solvoltage (R208) -/
def scriptSolvoltage : Script Report :=
  displayWake (selectChannel 0x27 (.pause 3000 (.run (.readReg locSolar) fun r =>
    selectChannel 0x00 (displaySleep (.done (.volts (solarVoltage r)))))))

/-- charge (R209) -/
def scriptCharge (h : HostConfig) : Script Report :=
  .run (.readReg h.regCint) fun i => .run (.readReg h.regCext) fun e => .run (.readReg locFlags) fun f =>
    .done (.amperes (currentOf h.divCharge h.extfChargeBit i e f))

/-- load (R210) -/
def scriptLoad (h : HostConfig) : Script Report :=
  .run (.readReg h.regLint) fun i => .run (.readReg h.regLext) fun e => .run (.readReg locFlags) fun f =>
    .done (.amperes (currentOf h.divLoad h.extfLoadBit i e f))

/-- state (R211) -/
def scriptState : Script Report := .run (.readReg locState) fun r => .done (.regulator (regulatorState r))

/-- The locations of the configuration block from CONFIGURATION_START to CONFIGURATION_END, in increasing order (R60). -/
def configLocations (h : HostConfig) : List Byte :=
  (List.range (h.configEnd.toNat + 1 - h.configStart.toNat)).map fun k => BitVec.ofNat 8 (h.configStart.toNat + k)

/-- READ_EEPROM of every location of a list, the bytes read so far in front (R212). -/
def readAll (soFar : List Byte) : List Byte → Script Report
  | [] => .done (.configuration soFar)
  | loc :: locs => .run (.readEeprom loc) fun v => readAll (soFar ++ [v]) locs

/-- save (R212): no file is written unless every read succeeded. -/
def scriptSave (h : HostConfig) : Script Report := readAll [] (configLocations h)

/-- WRITE_EEPROM of each byte to its location (R213). -/
def writeAllCells : List (Byte × Byte) → Script Report
  | [] => .done .nothing
  | (loc, b) :: cells => .run (.writeEeprom loc b) fun _ => writeAllCells cells

/-- restore (R213); none is a file that cannot be read; a file that is not exactly 45 bytes long is refused (U20). -/
def scriptRestore (h : HostConfig) : Option (List Byte) → Script Report
  | none => .localError
  | some file =>
    if file.length = configLen then writeAllCells ((configLocations h).zip file) else .localError

/-- powercycle (R214) -/
def scriptPowercycle : Script Report :=
  displayWake (selectChannel 0x17 (.run .longPush fun _ => trySleep (.done .nothing)))

/-- The closed set of commands (R200, R226 (c)), with the inputs the host gives them. -/
inductive Command where
  | test
  | plversion
  | getday
  | gettime
  | setdaytime (clock : Option WallClock)
  | batcapacity
  | batvoltage
  | solvoltage
  | charge
  | load
  | state
  | save
  | restore (file : Option (List Byte))
  | powercycle
  deriving DecidableEq, Repr

/-- The script of each command (R200). -/
def commandScript (h : HostConfig) : Command → Script Report
  | .test => scriptTest
  | .plversion => scriptPlversion
  | .getday => scriptGetday
  | .gettime => scriptGettime
  | .setdaytime clock => scriptSetdaytime clock
  | .batcapacity => scriptBatcapacity
  | .batvoltage => scriptBatvoltage
  | .solvoltage => scriptSolvoltage
  | .charge => scriptCharge h
  | .load => scriptLoad h
  | .state => scriptState
  | .save => scriptSave h
  | .restore file => scriptRestore h file
  | .powercycle => scriptPowercycle

end Sys2Proof.Machine
end

