-- ==== Sys2Proof/Safety.lean ====
section
/-! DEFINITION. The terms claims use: what a legal state of the block is (R34, R25, R29, R87), the transition table (R180),
the states that the rules describe after a START and after a completion, what a host can tell apart (R37), and runs of
several steps. -/

namespace Sys2Proof.Machine

/-- R34 (a): the guard is armed exactly while a channel call is in progress. -/
abbrev invGuard (s : State) : Prop := s.gArmed = true ↔ (s.phase = .tx ∨ s.phase = .rx)

/-- R34 (b): TX_OFF, and where it stands in each phase. -/
abbrev invTxOff (s : State) : Prop :=
  s.txOff.toNat ≤ 4 ∧ (s.phase = .tx → s.txOff.toNat < 4) ∧
    ((s.phase = .settle ∨ s.phase = .rx) → s.txOff.toNat = 4)

/-- R34 (c): RX_CNT and RX_LEN. -/
abbrev invRxCnt (s : State) : Prop :=
  s.rxCnt.toNat ≤ s.rxLen.toNat ∧ s.rxLen.toNat ≤ 2 ∧
    (s.phase = .rx → 1 ≤ s.rxLen.toNat ∧ s.rxCnt.toNat < s.rxLen.toNat)

/-- R34 (d): RETRIES. -/
abbrev invRetries (s : State) : Prop :=
  s.retries.toNat ≤ 10 ∧ ((s.phase = .tx ∨ s.phase = .rx) → s.retries.toNat < 10)

/-- R34 (e): the guard's count stays below WAIT. -/
abbrev invGuardCount (s : State) : Prop := s.gArmed = true → s.gCnt.toNat < s.wait.toNat

/-- R34 (f): the settle count stays below SETTLE_TICKS. -/
abbrev invSettleCount (s : State) : Prop := s.phase = .settle → s.sCnt.toNat < Config.settleTicks

/-- R34 (g): while an operation is in flight the frame's checksum fits and STATUS is NONE. -/
abbrev invInFlight (s : State) : Prop :=
  s.phase ≠ .idle → s.fr.checksum = s.fr.command ^^^ Config.checkMask ∧ s.status = .none

/-- R29: WAIT is never 0. -/
abbrev invWait (s : State) : Prop := 1 ≤ s.wait.toNat

/-- R25: RX_LEN is the response length of the operation in flight. -/
abbrev invRxLen (s : State) : Prop := s.phase ≠ .idle → s.rxLen = rxLenOf s.curOp

/-- R87: the frame in flight is one of the seven frames of R85, that of CUR_OP. -/
abbrev invFrame (s : State) : Prop :=
  s.phase ≠ .idle → ∃ loc data, s.fr = frameOf s.cfg.toConfig s.curOp loc data

/-- The state invariants of R34 together. -/
abbrev InvR34 (s : State) : Prop :=
  invGuard s ∧ invTxOff s ∧ invRxCnt s ∧ invRetries s ∧ invGuardCount s ∧ invSettleCount s ∧ invInFlight s

/-- A legal state: R34, and the clauses of R25, R29 and R87. -/
abbrev Legal (s : State) : Prop := InvR34 s ∧ invWait s ∧ invRxLen s ∧ invFrame s

/-- R31 and R178: where VALUE means something, it is the data byte of the response in RB. -/
abbrev InvValue (s : State) : Prop :=
  valueDefined s = true →
    (isReadOp s.curOp = true → s.rb.b0 = Config.successMark ∧ s.value = s.rb.b1) ∧
    (s.curOp = .probe → s.value = s.rb.b0 ∧ (s.status = .ok ↔ s.rb.b0 = Config.probeOkMark))

/-! ## States the rules describe -/

/-- What START leaves (R170, R133), for the frame f and the response length n; v and m are the free value of VALUE and
its counter (log 5, 6). -/
def started (op : Op) (f : Frame) (n : BitVec 2) (v : Byte) (m : Nat) (s : State) : State :=
  { s with
    phase := .tx
    curOp := op
    fr := f
    txOff := 0
    rxLen := n
    rxCnt := 0
    retries := 0
    gArmed := true
    gCnt := 0
    status := .none
    value := v
    freeCount := m }

/-- What the completion rule leaves (R246): STATUS st, VALUE v, the counter of the free values at m, everything else
kept. -/
def ended (st : Status) (v : Byte) (m : Nat) (s : State) : State :=
  { s with gArmed := false, status := st, phase := .idle, value := v, freeCount := m }

/-- RB, the counters and the RX stream after an RX_ANS(bs) with the counters at cnt and ret (R146). -/
def delivered (bs : List Byte) (cnt ret : Nat) (s : State) : State :=
  { s with
    rb := rbStore s.rb s.rxCnt.toNat bs
    rxCnt := BitVec.ofNat 2 cnt
    retries := BitVec.ofNat 4 ret
    rxTaken := s.rxTaken ++ bs }

/-! ## Runs -/

/-- The inputs es in front of those still to come. -/
def feed (es : List Event) (s : State) : State := { s with events := es ++ s.events }

/-- n consecutive TICKs. -/
def ticks (n : Nat) : List Event := List.replicate n .tick

/-- n steps, stopping at the first refusal or fault. -/
def steps : Nat → State → Result
  | 0, s => .next s
  | n + 1, s =>
    match step s with
    | .next t => steps n t
    | .fault r => .fault r
    | .refused r => .refused r

/-! ## The transition table -/

/-- The STATUS values a complete response can give, by the operation in flight (R178, R180). -/
abbrev judgedStatuses (op : Op) : List Status :=
  if isReadOp op then
    [.ok, .devTimeout, .devChecksum, .devUnrecognized, .devNoReply, .devReplyError, .devOther]
  else [.ok, .testFailed]

/-- The table of R180, row by row: in state s the event leads to this PHASE and this STATUS. -/
inductive TableRow (s : State) : Event → Phase → Status → Prop where
  | start {sel : BitVec 3} {loc data : Byte} (hp : s.phase = .idle) (hs : sel.toNat ≤ 6) :
      TableRow s (.start sel loc data) .tx .none
  | cfgWait {v : Word32} (hp : s.phase = .idle) (hv : 1 ≤ v.toNat) : TableRow s (.cfgWait v) .idle s.status
  | idleTick (hp : s.phase = .idle) : TableRow s .tick .idle s.status
  | txDone {k : Nat} (hp : s.phase = .tx) (hk : s.txOff.toNat + k = 4) : TableRow s (.txAns k) .settle s.status
  | txPart {k : Nat} (hp : s.phase = .tx) (hk : s.txOff.toNat + k < 4) (h0 : 0 < k) :
      TableRow s (.txAns k) .tx s.status
  | txRetry (hp : s.phase = .tx) (hk : s.txOff.toNat < 4) (hr : s.retries.toNat + 1 < 10) :
      TableRow s (.txAns 0) .tx s.status
  | txIncomplete (hp : s.phase = .tx) (hk : s.txOff.toNat < 4) (hr : s.retries.toNat + 1 = 10) :
      TableRow s (.txAns 0) .idle .incomplete
  | txErr (hp : s.phase = .tx) : TableRow s .txErr .idle .ioError
  | txTick (hp : s.phase = .tx) (hg : s.gCnt.toNat + 1 < s.wait.toNat) : TableRow s .tick .tx s.status
  | txTimeout (hp : s.phase = .tx) (hg : s.gCnt.toNat + 1 = s.wait.toNat) : TableRow s .tick .idle .timeout
  | settleTick (hp : s.phase = .settle) (hc : s.sCnt.toNat + 1 < 200) : TableRow s .tick .settle s.status
  | settleOk (hp : s.phase = .settle) (hc : s.sCnt.toNat + 1 = 200) (hl : s.rxLen.toNat = 0) :
      TableRow s .tick .idle .ok
  | settleRead (hp : s.phase = .settle) (hc : s.sCnt.toNat + 1 = 200) (hl : 0 < s.rxLen.toNat) :
      TableRow s .tick .rx s.status
  | rxDone {bs : List Byte} {st : Status} (hp : s.phase = .rx) (hk : s.rxCnt.toNat + bs.length = s.rxLen.toNat)
      (hst : st ∈ judgedStatuses s.curOp) : TableRow s (.rxAns bs) .idle st
  | rxPart {bs : List Byte} (hp : s.phase = .rx) (hk : s.rxCnt.toNat + bs.length < s.rxLen.toNat) (h0 : bs ≠ []) :
      TableRow s (.rxAns bs) .rx s.status
  | rxRetry (hp : s.phase = .rx) (hk : s.rxCnt.toNat < s.rxLen.toNat) (hr : s.retries.toNat + 1 < 10) :
      TableRow s (.rxAns []) .rx s.status
  | rxIncomplete (hp : s.phase = .rx) (hk : s.rxCnt.toNat < s.rxLen.toNat) (hr : s.retries.toNat + 1 = 10) :
      TableRow s (.rxAns []) .idle .incomplete
  | rxErr (hp : s.phase = .rx) : TableRow s .rxErr .idle .ioError
  | rxTick (hp : s.phase = .rx) (hg : s.gCnt.toNat + 1 < s.wait.toNat) : TableRow s .tick .rx s.status
  | rxTimeout (hp : s.phase = .rx) (hg : s.gCnt.toNat + 1 = s.wait.toNat) : TableRow s .tick .idle .timeout
  | reset : TableRow s .reset .idle .none

/-! ## What a host can tell apart -/

/-- Two states that differ at most in elements the spec calls unspecified or meaningless where they stand (R27, R28, R31,
R37, U5), in bytes of RB that no answer has delivered (R145), and in the model's counter of free values. -/
structure Alike (s t : State) : Prop where
  phase : s.phase = t.phase
  txOff : s.txOff = t.txOff
  rxLen : s.rxLen = t.rxLen
  rxCnt : s.rxCnt = t.rxCnt
  retries : s.retries = t.retries
  gArmed : s.gArmed = t.gArmed
  wait : s.wait = t.wait
  status : s.status = t.status
  txStream : s.txStream = t.txStream
  rxTaken : s.rxTaken = t.rxTaken
  events : s.events = t.events
  cfg : s.cfg = t.cfg
  curOp : s.phase ≠ .idle ∨ s.status ≠ .none → s.curOp = t.curOp
  fr : s.phase ≠ .idle → s.fr = t.fr
  gCnt : s.gArmed = true → s.gCnt = t.gCnt
  sCnt : s.phase = .settle → s.sCnt = t.sCnt
  rb0 : 1 ≤ s.rxCnt.toNat → s.rb.b0 = t.rb.b0
  rb1 : 2 ≤ s.rxCnt.toNat → s.rb.b1 = t.rb.b1
  value : valueDefined s = true → s.value = t.value

end Sys2Proof.Machine
end

