-- ==== Sys2Proof/Certificates/Slice0/Obligations.lean ====
section
/-! DEFINITION. The statements about the block that are to be proved, in the order of OBLIGATIONS.json: the codec and the
encodings, the requests, the channel event by event, completion and judgement, the step, the whole machine, runs, and the
host's programs. -/

open Sys2Proof Sys2Proof.Machine

/-! ## The Frame Codec and the encodings -/

/-- R110: the four bytes `encode` builds, and its corner cases. -/
def Obligations.EncodeBuildsTheFrame : Prop :=
  (∀ c l d : Byte, (frameEncode c l d).bytes = [c, l, d, c ^^^ 0xFF]) ∧
  (∀ l d : Byte, (frameEncode 0x00 l d).checksum = 0xFF) ∧
  (∀ l d : Byte, (frameEncode 0xFF l d).checksum = 0x00) ∧
  (∀ c l d l' d' : Byte, (frameEncode c l d).checksum = (frameEncode c l' d').checksum) ∧
  (∀ c l d : Byte, (frameEncode c l d).checksum ≠ (frameEncode c l d).command)

/-- R81: the checksum says nothing of location and data, and fails exactly when command and checksum no longer
complement each other. -/
def Obligations.ChecksumCoversCommandOnly : Prop :=
  (∀ (f : Frame) (l d : Byte), frameCheck { f with location := l, data := d } = frameCheck f) ∧
  (∀ c l d l' d' : Byte, (frameEncode c l d).checksum = (frameEncode c l' d').checksum) ∧
  (∀ (f : Frame) (c' k' : Byte), frameCheck f = true →
    (frameCheck { f with command := c', checksum := k' } = true ↔ k' = ~~~ c'))

/-- The checksum law in the equivalent forms of 40_frame_codec.md section 1, which the spec marks as derived. -/
def Obligations.ChecksumLawForms : Prop :=
  ∀ c l d : Byte,
    (frameEncode c l d).checksum = c ^^^ 0xFF ∧ c ^^^ 0xFF = ~~~ c ∧ (c ^^^ 0xFF).toNat = 255 - c.toNat ∧
      (c ^^^ 0xFF) ^^^ 0xFF = c ∧ c ^^^ (c ^^^ 0xFF) = 0xFF ∧ c.toNat + (c ^^^ 0xFF).toNat = 255

/-- frame_parse inverts encode on the frames that pass the check (the parsing half is the spec's own, D17). -/
def Obligations.FrameParseInvertsEncode : Prop :=
  (∀ c l d : Byte, frameCheck (frameEncode c l d) = true ∧ frameParse (frameEncode c l d) = .ok (c, l, d)) ∧
  (∀ f : Frame, frameCheck f = true → frameEncode f.command f.location f.data = f) ∧
  (∀ f : Frame, frameCheck f = false → frameParse f = .error .badChecksum) ∧
  (∀ c l d c' l' d' : Byte, frameEncode c l d = frameEncode c' l' d' → c = c' ∧ l = l' ∧ d = d')

/-- R115: the three properties of decode_response, under every value of the OPEN codes. -/
def Obligations.DecodeResponseProperties : Prop :=
  ∀ c : Config,
    (∀ v : Byte, decodeResponse c 0xC8 v = .ok v) ∧
    (∀ x : Byte, decodeResponse c 0x81 x = .err .devTimeout) ∧
    (∀ b x : Byte,
      b ≠ 0xC8 ∧ b ≠ 0x81 ∧ b ≠ c.codeChecksum ∧ b ≠ c.codeUnrecognized ∧ b ≠ c.codeNoReply ∧ b ≠ c.codeReplyError →
        decodeResponse c b x = .err .devOther)

/-- The four OPEN codes give the STATUS of their row, under every configuration D11 admits. -/
def Obligations.OpenCodesGiveTheirStatus : Prop :=
  ∀ c : Config, c.Admissible → ∀ x : Byte,
    decodeResponse c c.codeChecksum x = .err .devChecksum ∧
    decodeResponse c c.codeUnrecognized x = .err .devUnrecognized ∧
    decodeResponse c c.codeNoReply x = .err .devNoReply ∧
    decodeResponse c c.codeReplyError x = .err .devReplyError

/-- probe_ok of 40_frame_codec.md section 3 is equality with 80, and no error code is looked up: every other byte fails.
That the decoder rejects such a byte by the name notProbeOk is the model's reading (log 16). -/
def Obligations.ProbeOkIsEquality : Prop :=
  (∀ b : Byte, probeOk b = true ↔ b = 0x80) ∧
  (∀ (c : Config) (b : Byte), decodeBytes c [b] = .ok .respProbeOk ↔ b = 0x80) ∧
  (∀ (c : Config) (b : Byte), b ≠ 0x80 → decodeBytes c [b] = .error (.notProbeOk b))

/-- Decoding what encode gives returns the instruction, for every well-formed instruction and every operand. The probe
frame is OPEN: it can be read back when it is the frame of no other row (log 14). -/
def Obligations.DecodeEncodeRoundTrip : Prop :=
  ∀ (c : Config) (i : Instr), c.Admissible → i.wf c = true → (i = .probe → c.ProbeClear) →
    decodeBytes c (encode c i) = .ok i

/-- The request rows by match and mask over the 32-bit word W: the decoder reads a row exactly where W AND mask = match,
and its operands are the slices the table names. PROBE, whose bytes are OPEN, is read from its one word (log 14). -/
def Obligations.RequestRowsByMask : Prop :=
  ∀ (c : Config) (W : BitVec 32),
    let got := decodeBytes c (wordBytes 4 W.toNat)
    let loc := W.extractLsb' 16 8
    let data := W.extractLsb' 8 8
    (∀ l, got = .ok (.readReg l) ↔ W &&& 0xFF0000FF#32 = 0x140000EB#32 ∧ l = loc) ∧
    (∀ l, got = .ok (.readEeprom l) ↔ W &&& 0xFF0000FF#32 = 0x480000B7#32 ∧ l = loc) ∧
    (∀ l b, got = .ok (.writeReg l b) ↔ W &&& 0xFF0000FF#32 = 0x98000067#32 ∧ l = loc ∧ b = data) ∧
    (∀ l b, got = .ok (.writeEeprom l b) ↔ W &&& 0xFF0000FF#32 = 0xCA000035#32 ∧ l = loc ∧ b = data) ∧
    (got = .ok .shortPush ↔ W &&& 0xFF00FFFF#32 = 0x570001A8#32) ∧
    (got = .ok .longPush ↔ W &&& 0xFF00FFFF#32 = 0x570002A8#32) ∧
    (c.ProbeClear →
      (got = .ok .probe ↔ W = c.probeCmd ++ c.probeLoc ++ c.probeData ++ (c.probeCmd ^^^ 0xFF#8)))

/-- The response rows over the 16-bit word V, and the 8-bit row of PROBE. -/
def Obligations.ResponseRowsByMask : Prop :=
  ∀ (c : Config) (V : BitVec 16),
    let got := decodeBytes c (wordBytes 2 V.toNat)
    let code := V.extractLsb' 8 8
    let low := V.extractLsb' 0 8
    (∀ v, got = .ok (.respSuccess v) ↔ V &&& 0xFF00#16 = 0xC800#16 ∧ v = low) ∧
    (∀ x, got = .ok (.respDevTimeout x) ↔ V &&& 0xFF00#16 = 0x8100#16 ∧ x = low) ∧
    (c.Admissible →
      (∀ x, got = .ok (.respDevChecksum x) ↔ code = c.codeChecksum ∧ x = low) ∧
      (∀ x, got = .ok (.respDevUnrecognized x) ↔ code = c.codeUnrecognized ∧ x = low) ∧
      (∀ x, got = .ok (.respDevNoReply x) ↔ code = c.codeNoReply ∧ x = low) ∧
      (∀ x, got = .ok (.respDevReplyError x) ↔ code = c.codeReplyError ∧ x = low)) ∧
    (∀ k x, got = .ok (.respDevOther k x) ↔ code ∉ c.namedCodes ∧ k = code ∧ x = low) ∧
    (∀ B : BitVec 8, decodeBytes c (wordBytes 1 B.toNat) = .ok .respProbeOk ↔ B &&& 0xFF#8 = 0x80#8)

/-- Words written out from the encodings decode to the instructions they stand for. -/
def Obligations.WrittenOutWordsDecode : Prop :=
  ∀ c : Config,
    decodeBytes c [0b00010100, 0b00110000, 0b00000000, 0b11101011] = .ok (.readReg 0x30) ∧
    decodeBytes c [0b01001000, 0b00001110, 0b00000000, 0b10110111] = .ok (.readEeprom 0x0E) ∧
    decodeBytes c [0b10011000, 0b01100110, 0b00100111, 0b01100111] = .ok (.writeReg 0x66 0x27) ∧
    decodeBytes c [0b11001010, 0b00001110, 0b01111111, 0b00110101] = .ok (.writeEeprom 0x0E 0x7F) ∧
    decodeBytes c [0b01010111, 0b00000000, 0b00000001, 0b10101000] = .ok .shortPush ∧
    decodeBytes c [0b01010111, 0b00000000, 0b00000010, 0b10101000] = .ok .longPush ∧
    decodeBytes c [0b11001000, 0b01011111] = .ok (.respSuccess 0x5F) ∧
    decodeBytes c [0b10000001, 0b00000000] = .ok (.respDevTimeout 0x00) ∧
    decodeBytes c [0b10000000] = .ok .respProbeOk

/-- Every first byte of a RESP2 response, with every second byte, decodes to a response whose judgement ends the read in
flight with a STATUS: OK, or one of the six of the closed set (30_encoding.md section 4). That a response runs as an
instruction when its bytes are complete is the model's arrangement (log 15). -/
def Obligations.NoFirstByteIsIllegal : Prop :=
  ∀ (s : State) (code x : Byte), s.phase = .rx → s.rxCnt = s.rxLen → isReadOp s.curOp = true →
    ∃ i t, decodeBytes s.cfg.toConfig [code, x] = .ok i ∧ exec i s = .next t ∧
      t.status ∈ [Status.ok, .devTimeout, .devChecksum, .devUnrecognized, .devNoReply, .devReplyError, .devOther] ∧
      (code ∉ s.cfg.namedCodes → t.status = .devOther)

/-! ## The requests -/

/-- Every request, started in IDLE, answers the state of its START step: the frame of its row in FR, RX_LEN as its
response has, STATUS NONE, and write_all entered. VALUE is unspecified there (D13): it is some v, of which nothing is
said. The fill bytes 00 are the spec's choice (D8, D9). -/
def Obligations.RequestsStart : Prop :=
  ∀ (s : State) (loc byte : Byte), s.phase = .idle →
    (∃ v m, exec (.readReg loc) s = .next (started .readReg ⟨0x14, loc, 0x00, 0xEB⟩ 2 v m s)) ∧
    (∃ v m, exec (.readEeprom loc) s = .next (started .readEeprom ⟨0x48, loc, 0x00, 0xB7⟩ 2 v m s)) ∧
    (∃ v m, exec (.writeReg loc byte) s = .next (started .writeReg ⟨0x98, loc, byte, 0x67⟩ 0 v m s)) ∧
    (∃ v m, exec (.writeEeprom loc byte) s = .next (started .writeEeprom ⟨0xCA, loc, byte, 0x35⟩ 0 v m s)) ∧
    (∃ v m, exec .shortPush s = .next (started .shortPush ⟨0x57, 0x00, 0x01, 0xA8⟩ 0 v m s)) ∧
    (∃ v m, exec .longPush s = .next (started .longPush ⟨0x57, 0x00, 0x02, 0xA8⟩ 0 v m s)) ∧
    (∃ v m, exec .probe s =
      .next (started .probe ⟨s.cfg.probeCmd, s.cfg.probeLoc, s.cfg.probeData, s.cfg.probeCmd ^^^ 0xFF⟩ 1 v m s))

/-- The frame of the seven requests: what a START step leaves unchanged. -/
def Obligations.RequestsFrame : Prop :=
  ∀ (s t : State) (i : Instr), (opOf i).isSome = true → exec i s = .next t →
    t.rb = s.rb ∧ t.sCnt = s.sCnt ∧ t.wait = s.wait ∧ t.txStream = s.txStream ∧ t.rxTaken = s.rxTaken ∧
      t.events = s.events ∧ t.cfg = s.cfg

/-- R181: a request while an operation is in flight has no step, started by an event or as an instruction. -/
def Obligations.StartWhileBusyHasNoStep : Prop :=
  ∀ (s : State), s.phase ≠ .idle →
    (∀ i, (opOf i).isSome = true → exec i s = .refused .startWhileBusy) ∧
    (∀ sel loc data, ∃ r, step (feed [.start sel loc data] s) = .refused r)

/-- The reserved selector 7 names no request and has no step in any phase; every other selector names one (D23). -/
def Obligations.SelectorSevenIsReserved : Prop :=
  (∀ (s : State) (loc data : Byte), step (feed [.start 7 loc data] s) = .refused .reservedSelector) ∧
  (∀ loc data : Byte,
    decodeStart 0 loc data = some (.readReg loc) ∧ decodeStart 1 loc data = some (.readEeprom loc) ∧
    decodeStart 2 loc data = some (.writeReg loc data) ∧ decodeStart 3 loc data = some (.writeEeprom loc data) ∧
    decodeStart 4 loc data = some .shortPush ∧ decodeStart 5 loc data = some .longPush ∧
    decodeStart 6 loc data = some .probe ∧ decodeStart 7 loc data = none)

/-- R133: the entry to write_all, performed by START after FR has been loaded. -/
def Obligations.WriteAllEntryByStart : Prop :=
  ∀ (s t : State) (sel : BitVec 3) (loc data : Byte), step (feed [.start sel loc data] s) = .next t →
    t.txOff = 0 ∧ t.retries = 0 ∧ t.gArmed = true ∧ t.gCnt = 0 ∧ t.phase = .tx ∧
      outstanding t = some (.offer [t.fr.command, t.fr.location, t.fr.data, t.fr.checksum]) ∧
      (∃ op, opOfSelector sel = some op ∧ t.fr = frameOf s.cfg.toConfig op loc data)

/-- CFG_WAIT: in IDLE, for v other than 0, it writes WAIT and nothing else; otherwise it has no step (D15, D16). -/
def Obligations.CfgWaitStep : Prop :=
  ∀ (s : State) (v : Word32),
    (s.phase = .idle → v ≠ 0 → step (feed [.cfgWait v] s) = .next { s with wait := v }) ∧
    (s.phase = .idle → v = 0 → step (feed [.cfgWait v] s) = .refused .cfgWaitZero) ∧
    (s.phase ≠ .idle → step (feed [.cfgWait v] s) = .refused .cfgWaitWhileBusy)

/-! ## The Reliable Channel -/

/-- The step on TX_ANS(k) in PHASE TX and in range, in its three branches. The offset accumulates, only k = 0 counts as
a retry, and the TX stream gains the first k bytes of what was offered (D3, D6, D7). -/
def Obligations.WriteAnswerStep : Prop :=
  ∀ (s : State) (k : Nat), s.phase = .tx → s.txOff.toNat + k ≤ 4 →
    let off := s.txOff.toNat + k
    let ret := s.retries.toNat + (if k = 0 then 1 else 0)
    let p : State :=
      { s with
        txOff := BitVec.ofNat 3 off
        retries := BitVec.ofNat 4 ret
        txStream := s.txStream ++ (s.fr.bytes.drop s.txOff.toNat).take k }
    (off = 4 → step (feed [.txAns k] s) = .next { p with gArmed := false, sCnt := 0, phase := .settle }) ∧
    (off ≠ 4 → ret = 10 → ∃ v m, step (feed [.txAns k] s) = .next (ended .incomplete v m p)) ∧
    (off ≠ 4 → ret ≠ 10 → step (feed [.txAns k] s) = .next p)

/-- R139: TX_ERR. -/
def Obligations.WriteErrorStep : Prop :=
  ∀ s : State,
    (s.phase = .tx → ∃ v m,
      step (feed [.txErr] s) = .next (ended .ioError v m s) ∧ outstanding (ended .ioError v m s) = none) ∧
    (s.phase ≠ .tx → step (feed [.txErr] s) = .refused .noWriteAttempt)

/-- R140: TICK in PHASE TX, the WAIT-th TICK after arm(), and the fate of a late answer. -/
def Obligations.TimeoutInTx : Prop :=
  ∀ s : State, s.phase = .tx →
    (s.gCnt.toNat + 1 = s.wait.toNat → ∃ v m, step (feed [.tick] s) = .next (ended .timeout v m s) ∧
      (∀ k, step (feed [.txAns k] (ended .timeout v m s)) = .refused .noWriteAttempt) ∧
      step (feed [.txErr] (ended .timeout v m s)) = .refused .noWriteAttempt) ∧
    (s.gCnt.toNat + 1 ≠ s.wait.toNat →
      step (feed [.tick] s) = .next { s with gCnt := BitVec.ofNat 32 (s.gCnt.toNat + 1) }) ∧
    (s.gCnt = 0 → ∀ n, n < s.wait.toNat → steps n (feed (ticks n) s) = .next { s with gCnt := BitVec.ofNat 32 n }) ∧
    (s.gCnt = 0 → 1 ≤ s.wait.toNat → ∃ v m, steps s.wait.toNat (feed (ticks s.wait.toNat) s) =
      .next (ended .timeout v m { s with gCnt := BitVec.ofNat 32 (s.wait.toNat - 1) }))

/-- The settle delay: it counts to 199, and the 200th TICK completes a write-type operation with OK or enters read_exact,
whatever WAIT is. No link event has a step meanwhile. The figure 200 is the spec's choice (D21; log 12). -/
def Obligations.SettleDelay : Prop :=
  ∀ s : State, s.phase = .settle →
    (s.sCnt = 0 → ∀ n, n < 200 → steps n (feed (ticks n) s) = .next { s with sCnt := BitVec.ofNat 8 n }) ∧
    (s.sCnt.toNat = 199 → s.rxLen = 0 → ∃ v m, step (feed [.tick] s) = .next (ended .ok v m s)) ∧
    (s.sCnt.toNat = 199 → s.rxLen ≠ 0 → step (feed [.tick] s) =
      .next { s with rxCnt := 0, retries := 0, gArmed := true, gCnt := 0, phase := .rx }) ∧
    (∀ k, step (feed [.txAns k] s) = .refused .noWriteAttempt) ∧
    step (feed [.txErr] s) = .refused .noWriteAttempt ∧
    (∀ bs, step (feed [.rxAns bs] s) = .refused .noReadAttempt) ∧
    step (feed [.rxErr] s) = .refused .noReadAttempt

/-- R146: the step on RX_ANS(bs) in PHASE RX and in range, in its three branches; the completing one judges the response
in the same step, with the guard disarmed. -/
def Obligations.ReadAnswerStep : Prop :=
  ∀ (s : State) (bs : List Byte), s.phase = .rx → s.rxCnt.toNat + bs.length ≤ s.rxLen.toNat →
    let cnt := s.rxCnt.toNat + bs.length
    let ret := s.retries.toNat + (if bs.length = 0 then 1 else 0)
    let p := delivered bs cnt ret s
    (∀ j (hj : j < bs.length), s.rxCnt.toNat + j = 0 → p.rb.b0 = bs[j]) ∧
    (∀ j (hj : j < bs.length), s.rxCnt.toNat + j = 1 → p.rb.b1 = bs[j]) ∧
    (0 < s.rxCnt.toNat ∨ cnt = 0 → p.rb.b0 = s.rb.b0) ∧
    (cnt < 2 → p.rb.b1 = s.rb.b1) ∧
    (cnt = s.rxLen.toNat → step (feed [.rxAns bs] s) = judge { p with gArmed := false }) ∧
    (cnt ≠ s.rxLen.toNat → ret = 10 → ∃ v m, step (feed [.rxAns bs] s) = .next (ended .incomplete v m p)) ∧
    (cnt ≠ s.rxLen.toNat → ret ≠ 10 → step (feed [.rxAns bs] s) = .next p)

/-- R150: RX_ERR. -/
def Obligations.ReadErrorStep : Prop :=
  ∀ s : State,
    (s.phase = .rx → ∃ v m,
      step (feed [.rxErr] s) = .next (ended .ioError v m s) ∧ outstanding (ended .ioError v m s) = none) ∧
    (s.phase ≠ .rx → step (feed [.rxErr] s) = .refused .noReadAttempt)

/-- R151: TICK in PHASE RX, and the whole of WAIT for a read: from the TICK that ends the settle delay, whatever G_CNT the
write left, WAIT more TICKs with a silent device raise TIMEOUT, and fewer only count. -/
def Obligations.TimeoutInRx : Prop :=
  (∀ s : State, s.phase = .rx →
    (s.gCnt.toNat + 1 = s.wait.toNat → ∃ v m, step (feed [.tick] s) = .next (ended .timeout v m s)) ∧
    (s.gCnt.toNat + 1 ≠ s.wait.toNat →
      step (feed [.tick] s) = .next { s with gCnt := BitVec.ofNat 32 (s.gCnt.toNat + 1) })) ∧
  (∀ s : State, s.phase = .settle → s.sCnt.toNat + 1 = Config.settleTicks → s.rxLen ≠ 0 → 1 ≤ s.wait.toNat →
    (∀ n, n < s.wait.toNat → ∃ t, steps (1 + n) (feed (ticks (1 + n)) s) = .next t ∧ t.phase = .rx ∧
      t.gCnt = BitVec.ofNat 32 n ∧ t.status = s.status) ∧
    ∃ t, steps (1 + s.wait.toNat) (feed (ticks (1 + s.wait.toNat)) s) = .next t ∧ t.phase = .idle ∧
      t.status = .timeout ∧ t.gArmed = false ∧ t.rxCnt = 0 ∧ t.rb = s.rb ∧
      t.gCnt = BitVec.ofNat 32 (s.wait.toNat - 1) ∧ t.events = s.events)

/-- R152: TICK in PHASE IDLE changes nothing, however many come. -/
def Obligations.TickInIdle : Prop :=
  ∀ (s : State) (n : Nat), s.phase = .idle → steps n (feed (ticks n) s) = .next s

/-- RESET has a step in every phase and gives every element its value of 10_state.md section 7, which are the spec's own
choice (D14); the link's streams, the inputs and the OPEN parameters stay. What the unspecified elements hold is left
free (log 4). -/
def Obligations.ResetEvent : Prop :=
  ∀ s : State, ∃ t, step (feed [.reset] s) = .next t ∧
    t.phase = .idle ∧ t.txOff = 0 ∧ t.rxLen = 0 ∧ t.rxCnt = 0 ∧ t.retries = 0 ∧ t.gArmed = false ∧
    t.wait.toNat = 10000 ∧ t.status = .none ∧ busy t = false ∧
    t.txStream = s.txStream ∧ t.rxTaken = s.rxTaken ∧ t.events = s.events ∧ t.cfg = s.cfg

/-- A link answer in a phase with no attempt of its kind outstanding, or above what was offered or asked for, has no step
(D24). -/
def Obligations.AnswersOutsideTheContract : Prop :=
  ∀ s : State,
    (∀ k, s.phase ≠ .tx → step (feed [.txAns k] s) = .refused .noWriteAttempt) ∧
    (∀ k, s.phase = .tx → 4 < s.txOff.toNat + k → step (feed [.txAns k] s) = .refused .writeAnswerTooLong) ∧
    (∀ bs, s.phase ≠ .rx → step (feed [.rxAns bs] s) = .refused .noReadAttempt) ∧
    (∀ bs, s.phase = .rx → s.rxLen.toNat < s.rxCnt.toNat + bs.length →
      step (feed [.rxAns bs] s) = .refused .readAnswerTooLong)

/-- A completing answer and the last TICK of WAIT that fall together, for both directions. Answer first: the write has
succeeded and the TICK counts for the settle delay, the read is judged and the TICK changes nothing. TICK first: the call
has timed out and the answer has no step (D19; log 17). -/
def Obligations.AnswerAndLastTickInEitherOrder : Prop :=
  ∀ s : State, s.gCnt.toNat + 1 = s.wait.toNat →
    (∀ k, s.phase = .tx → s.txOff.toNat + k = 4 →
      (∃ t, steps 2 (feed [.txAns k, .tick] s) = .next t ∧ t.phase = .settle ∧ t.sCnt = 1 ∧ t.status = s.status ∧
        t.gArmed = false) ∧
      (∃ t, step (feed [.tick, .txAns k] s) = .next t ∧ t.phase = .idle ∧ t.status = .timeout ∧
        step t = .refused .noWriteAttempt)) ∧
    (∀ bs, s.phase = .rx → s.rxCnt.toNat + bs.length = s.rxLen.toNat →
      (∃ t, step (feed [.rxAns bs] s) = .next t ∧ steps 2 (feed [.rxAns bs, .tick] s) = .next t ∧ t.phase = .idle ∧
        t.status ∈ judgedStatuses s.curOp ∧ t.gArmed = false) ∧
      (∃ t, step (feed [.tick, .rxAns bs] s) = .next t ∧ t.phase = .idle ∧ t.status = .timeout ∧
        step t = .refused .noReadAttempt))

/-! ## Completion and judgement -/

/-- R246: what `raise s` does, with and without a VALUE, and that it does nothing else. -/
def Obligations.CompletionRule : Prop :=
  ∀ (s : State) (st : Status), st ≠ .none →
    (∃ v m, raise st s = { s with gArmed := false, status := st, phase := .idle, value := v, freeCount := m }) ∧
    (∀ v, raiseWithValue st v s = { s with gArmed := false, status := st, phase := .idle, value := v })

/-- R178: the judgement of a complete response, in the step of the RX_ANS that completes read_exact: decode_response for
the reads, probe_ok for PROBE, and RB keeps both bytes. -/
def Obligations.JudgementOfAResponse : Prop :=
  ∀ (s : State) (bs : List Byte), s.phase = .rx → s.rxCnt.toNat + bs.length = s.rxLen.toNat →
    let p := delivered bs (s.rxCnt.toNat + bs.length) (s.retries.toNat + (if bs.length = 0 then 1 else 0)) s
    (isReadOp s.curOp = true →
      (∀ v, decodeResponse s.cfg.toConfig p.rb.b0 p.rb.b1 = .ok v →
        step (feed [.rxAns bs] s) = .next (ended .ok v s.freeCount p)) ∧
      (∀ st, decodeResponse s.cfg.toConfig p.rb.b0 p.rb.b1 = .err st →
        ∃ v m, step (feed [.rxAns bs] s) = .next (ended st v m p))) ∧
    (isReadOp s.curOp = false →
      (probeOk p.rb.b0 = true → step (feed [.rxAns bs] s) = .next (ended .ok p.rb.b0 s.freeCount p)) ∧
      (probeOk p.rb.b0 = false → step (feed [.rxAns bs] s) = .next (ended .testFailed p.rb.b0 s.freeCount p)))

/-- Every response, due for judgement, answers the state of its completion: RESP_SUCCESS with OK and the data byte in
VALUE, the six failures with their STATUS and VALUE unspecified (some v), RESP_PROBE_OK with OK and 80 in VALUE. That a
response runs as an instruction when its bytes are complete is the model's arrangement (log 15). -/
def Obligations.ResponsesComplete : Prop :=
  ∀ (s : State) (k x : Byte), s.phase = .rx → s.rxCnt = s.rxLen →
    (isReadOp s.curOp = true →
      exec (.respSuccess x) s = .next (ended .ok x s.freeCount s) ∧
      (∃ v m, exec (.respDevTimeout x) s = .next (ended .devTimeout v m s)) ∧
      (∃ v m, exec (.respDevChecksum x) s = .next (ended .devChecksum v m s)) ∧
      (∃ v m, exec (.respDevUnrecognized x) s = .next (ended .devUnrecognized v m s)) ∧
      (∃ v m, exec (.respDevNoReply x) s = .next (ended .devNoReply v m s)) ∧
      (∃ v m, exec (.respDevReplyError x) s = .next (ended .devReplyError v m s)) ∧
      (∃ v m, exec (.respDevOther k x) s = .next (ended .devOther v m s))) ∧
    (isReadOp s.curOp = false → exec .respProbeOk s = .next (ended .ok 0x80 s.freeCount s))

/-- The frame of the eight responses: what a judgement leaves unchanged. -/
def Obligations.ResponsesFrame : Prop :=
  ∀ (s t : State) (i : Instr), opOf i = none → exec i s = .next t →
    t.curOp = s.curOp ∧ t.fr = s.fr ∧ t.txOff = s.txOff ∧ t.rb = s.rb ∧ t.rxLen = s.rxLen ∧ t.rxCnt = s.rxCnt ∧
      t.retries = s.retries ∧ t.gCnt = s.gCnt ∧ t.sCnt = s.sCnt ∧ t.wait = s.wait ∧ t.txStream = s.txStream ∧
      t.rxTaken = s.rxTaken ∧ t.events = s.events ∧ t.cfg = s.cfg

/-- A response runs in no state where none of its format is due: the model's refusal (log 15). -/
def Obligations.ResponseNotDueIsRefused : Prop :=
  ∀ (s : State) (i : Instr), opOf i = none →
    (s.phase ≠ .rx ∨ s.rxCnt ≠ s.rxLen ∨ isReadOp s.curOp = (i == .respProbeOk)) →
    exec i s = .refused .noResponseDue

/-! ## The step -/

/-- A step runs the decoded instruction: a START runs the request its selector and operands name; the RX_ANS that
completes read_exact runs the response its bytes decode to, in the state with the bytes in RB and the guard disarmed.
That the completing RX_ANS decodes the bytes in RB and runs the response as an instruction is the model's arrangement (log
15); the RESP1 byte that decodes to no row fails the probe (log 16). -/
def Obligations.StepRunsTheDecodedInstruction : Prop :=
  (∀ (s : State) (sel : BitVec 3) (loc data : Byte) (i : Instr), decodeStart sel loc data = some i →
    step (feed [.start sel loc data] s) = exec i s) ∧
  (∀ (s : State) (bs : List Byte), s.phase = .rx → s.rxCnt.toNat + bs.length = s.rxLen.toNat →
    let d : State :=
      { delivered bs (s.rxCnt.toNat + bs.length) (s.retries.toNat + (if bs.length = 0 then 1 else 0)) s with
        gArmed := false }
    (∀ i, isReadOp s.curOp = true → decodeBytes s.cfg.toConfig [d.rb.b0, d.rb.b1] = .ok i →
      step (feed [.rxAns bs] s) = exec i d) ∧
    (∀ i, isReadOp s.curOp = false → decodeBytes s.cfg.toConfig [d.rb.b0] = .ok i →
      step (feed [.rxAns bs] s) = exec i d) ∧
    (∀ e, isReadOp s.curOp = false → decodeBytes s.cfg.toConfig [d.rb.b0] = .error e →
      step (feed [.rxAns bs] s) = .next (ended .testFailed d.rb.b0 s.freeCount d)))

/-- A word of the opcode table placed as the next input is what the next step runs: a request by its START, a response in
the state that awaits it (the model's arrangement, log 2 and 15). -/
def Obligations.PlacedWordRunsNext : Prop :=
  (∀ (s : State) (w : Nat) (i : Instr), decodeBytes s.cfg.toConfig (wordBytes 4 w) = .ok i →
    step (s.withFetchWord 32 w) = exec i s) ∧
  (∀ (s : State) (w : Nat) (i : Instr), decodeBytes s.cfg.toConfig (wordBytes 2 w) = .ok i →
    ∃ d t, step (s.withFetchWord 16 w) = exec i d ∧ exec i d = .next t ∧ d.events = s.events ∧ d.wait = s.wait ∧
      d.rb = ⟨BitVec.ofNat 8 (w / 256), BitVec.ofNat 8 w⟩) ∧
  (∀ (s : State) (w : Nat) (i : Instr), decodeBytes s.cfg.toConfig (wordBytes 1 w) = .ok i →
    ∃ d t, step (s.withFetchWord 8 w) = exec i d ∧ exec i d = .next t ∧ d.events = s.events ∧ d.wait = s.wait ∧
      d.rb.b0 = BitVec.ofNat 8 w)

/-- With no event pending there is no step: the model's refusal (log 1). -/
def Obligations.NoEventNoStep : Prop := ∀ s : State, s.events = [] → step s = .refused .noEvent

/-! ## The whole machine -/

/-- The invariants of 10_state.md section 5, clause by clause, with the ranges of WAIT and RX_LEN and the shape of FR
beside them, are kept by every step. -/
def Obligations.StepKeepsInv : Prop := ∀ s t : State, Legal s → step s = .next t → Legal t

/-- They hold right after reset, and RESET establishes them from any state whatever. -/
def Obligations.ResetMeetsInv : Prop := Legal State.reset ∧ ∀ s : State, Legal (resetBlock s)

/-- The transition table of 42_register_access.md section 5: from a legal state a step takes a row of the table, and
every row has its step, from any state. -/
def Obligations.TransitionTable : Prop :=
  (∀ (s t : State) (e : Event), Legal s → step (feed [e] s) = .next t → TableRow s e t.phase t.status) ∧
  (∀ (s : State) (e : Event) (p : Phase) (st : Status), TableRow s e p st → ∃ t, step (feed [e] s) = .next t)

/-- R132: the guard is disarmed on every exit of a channel call, and RESET disarms it too. -/
def Obligations.DisarmOnEveryExit : Prop :=
  (∀ s t : State, step s = .next t → (s.phase = .tx ∨ s.phase = .rx) → t.phase ≠ s.phase → t.gArmed = false) ∧
  (∀ s t : State, step (feed [.reset] s) = .next t → t.gArmed = false)

/-- The column "written by" of the state table: which events can change each element. The link's streams only grow; the
OPEN parameters never change; a step takes exactly one input. -/
def Obligations.WrittenBy : Prop :=
  ∀ (s t : State) (e : Event), step (feed [e] s) = .next t →
    (t.phase ≠ s.phase → ∀ v, e ≠ .cfgWait v) ∧
    (t.gArmed ≠ s.gArmed → t.phase ≠ s.phase ∨ e = .reset) ∧
    (t.gCnt ≠ s.gCnt → (∃ sel l d, e = .start sel l d) ∨ e = .tick ∨ e = .reset) ∧
    (t.sCnt ≠ s.sCnt → (∃ k, e = .txAns k) ∨ (e = .tick ∧ s.phase = .settle) ∨ e = .reset) ∧
    (t.curOp ≠ s.curOp → (∃ sel l d, e = .start sel l d) ∨ e = .reset) ∧
    (t.fr ≠ s.fr → (∃ sel l d, e = .start sel l d) ∨ e = .reset) ∧
    (t.txOff ≠ s.txOff → (∃ sel l d, e = .start sel l d) ∨ (∃ k, e = .txAns k) ∨ e = .reset) ∧
    (t.rb ≠ s.rb → (∃ bs, e = .rxAns bs) ∨ e = .reset) ∧
    (t.rxLen ≠ s.rxLen → (∃ sel l d, e = .start sel l d) ∨ e = .reset) ∧
    (t.rxCnt ≠ s.rxCnt →
      (∃ sel l d, e = .start sel l d) ∨ (e = .tick ∧ s.phase = .settle) ∨ (∃ bs, e = .rxAns bs) ∨ e = .reset) ∧
    (t.retries ≠ s.retries →
      (∃ sel l d, e = .start sel l d) ∨ (e = .tick ∧ s.phase = .settle) ∨ (∃ k, e = .txAns k) ∨
        (∃ bs, e = .rxAns bs) ∨ e = .reset) ∧
    (t.wait ≠ s.wait → (∃ v, e = .cfgWait v) ∨ e = .reset) ∧
    (t.status ≠ s.status → (∃ sel l d, e = .start sel l d) ∨ (busy s = true ∧ busy t = false) ∨ e = .reset) ∧
    (t.value ≠ s.value → (∃ sel l d, e = .start sel l d) ∨ (busy s = true ∧ busy t = false) ∨ e = .reset) ∧
    (t.txStream ≠ s.txStream → ∃ k, e = .txAns k) ∧ s.txStream <+: t.txStream ∧
    (t.rxTaken ≠ s.rxTaken → ∃ bs, e = .rxAns bs ∧ t.rxTaken = s.rxTaken ++ bs) ∧
    t.cfg = s.cfg ∧ t.events = s.events

/-- Which event raises which STATUS, and what is recorded beside it: the failure table of 60_exceptions.md section 1,
with the operations that can report each, and the two causes of OK (42_register_access.md sections 2 and 5,
41_reliable_channel.md section 4). -/
def Obligations.CausesOfEveryStatus : Prop :=
  ∀ (s t : State) (e : Event), Legal s → step (feed [e] s) = .next t → t.status ≠ s.status → t.status ≠ .none →
    t.phase = .idle ∧ t.status ∈ canRaise s.curOp ∧ t.curOp = s.curOp ∧
    (t.status = .ioError → (s.phase = .tx ∧ e = .txErr ∨ s.phase = .rx ∧ e = .rxErr) ∧ t.rb = s.rb ∧
      t.txOff = s.txOff ∧ t.rxCnt = s.rxCnt ∧ t.retries = s.retries) ∧
    (t.status = .incomplete → (s.phase = .tx ∧ e = .txAns 0 ∨ s.phase = .rx ∧ e = .rxAns []) ∧
      s.retries.toNat = 9 ∧ t.retries.toNat = 10 ∧ t.rb = s.rb ∧ t.txOff = s.txOff ∧ t.rxCnt = s.rxCnt) ∧
    (t.status = .timeout → (s.phase = .tx ∨ s.phase = .rx) ∧ e = .tick ∧ t.rb = s.rb ∧ t.txOff = s.txOff ∧
      t.rxCnt = s.rxCnt ∧ t.retries = s.retries ∧ t.gCnt = s.gCnt ∧ t.gCnt.toNat = t.wait.toNat - 1) ∧
    (statusKind t.status = .transport → (failedStage t = some .writeAll ↔ s.phase = .tx)) ∧
    (statusKind t.status = .protocol → s.phase = .rx ∧ (∃ bs, e = .rxAns bs) ∧ isReadOp s.curOp = true ∧
      t.rxCnt.toNat = 2 ∧ decodeResponse s.cfg.toConfig t.rb.b0 t.rb.b1 = .err t.status) ∧
    (t.status = .testFailed → s.phase = .rx ∧ (∃ bs, e = .rxAns bs) ∧ s.curOp = .probe ∧ t.rxCnt.toNat = 1 ∧
      t.rb.b0 ≠ 0x80 ∧ t.value = t.rb.b0) ∧
    (t.status = .ok →
      (s.phase = .settle ∧ e = .tick ∧ s.sCnt.toNat + 1 = Config.settleTicks ∧ s.rxLen = 0) ∨
      (s.phase = .rx ∧ (∃ bs, e = .rxAns bs ∧ s.rxCnt.toNat + bs.length = s.rxLen.toNat) ∧ t.rxCnt = s.rxLen ∧
        (isReadOp s.curOp = true ∧ t.rb.b0 = 0xC8 ∧ t.value = t.rb.b1 ∨
          s.curOp = .probe ∧ t.rb.b0 = 0x80 ∧ t.value = 0x80)))

/-- R243: a write-type operation ends in OK or a transport failure, and takes no byte from the RX stream: no answer of the
link to a read is enabled while it is in flight. -/
def Obligations.WriteTypeFailuresAreTransport : Prop :=
  ∀ (s t : State) (e : Event), Legal s → s.phase ≠ .idle →
    s.curOp ∈ [Op.writeReg, .writeEeprom, .shortPush, .longPush] → step (feed [e] s) = .next t →
    t.rxTaken = s.rxTaken ∧ (t.status = .none ∨ t.status = .ok ∨ statusKind t.status = .transport)

/-- R242: TIMEOUT is the guard's, DEV_TIMEOUT the device's: the one is raised by the TICK that completes WAIT, the other
by a complete two-byte response whose first byte is 81, and the two codes differ. -/
def Obligations.TimeoutIsNotDevTimeout : Prop :=
  (∀ (s t : State) (e : Event), Legal s → step (feed [e] s) = .next t → t.status ≠ s.status →
    (t.status = .timeout → e = .tick ∧ s.gArmed = true ∧ s.gCnt.toNat + 1 = s.wait.toNat) ∧
    (t.status = .devTimeout → (∃ bs, e = .rxAns bs) ∧ isReadOp s.curOp = true ∧ t.rxCnt.toNat = 2 ∧
      t.rb.b0 = 0x81)) ∧
  statusCode .timeout ≠ statusCode .devTimeout

/-- Where VALUE means something it is the data byte of the response in RB, through every step from a legal state (D13). -/
def Obligations.ValueIsTheResponseByte : Prop :=
  (∀ s t : State, Legal s → InvValue s → step s = .next t → InvValue t) ∧ InvValue State.reset

/-- What the spec calls unspecified is never seen: two legal states that differ only there take the same steps, refuse for
the same reasons, and stay alike; and the state after reset is alike to itself with any values in those elements (D13,
D14). -/
def Obligations.UnspecifiedIsNeverSeen : Prop :=
  (∀ s t : State, Legal s → Legal t → Alike s t →
    (∀ s', step s = .next s' → ∃ t', step t = .next t' ∧ Alike s' t') ∧
    (∀ r, step s = .refused r → step t = .refused r)) ∧
  (∀ (op : Op) (f : Frame) (rb : RespBuf) (g : Word32) (c v : Byte) (es : List Event),
    Alike (feed es State.reset)
      (feed es { State.reset with curOp := op, fr := f, rb := rb, gCnt := g, sCnt := c, value := v })) ∧
  (∀ s t : State, Alike s t →
    busy s = busy t ∧ (hostView s).status = (hostView t).status ∧ (hostView s).wait = (hostView t).wait ∧
      (hostView s).txOff = (hostView t).txOff ∧ (hostView s).rxCnt = (hostView t).rxCnt ∧
      (hostView s).retries = (hostView t).retries)

/-! ## Runs -/

/-- A write_all takes at most 13 answers: no longer list of them can be answered to the end (the bound is derived in
41_reliable_channel.md section 6, from the spec's decision D6 on what counts as a retry; log 18). -/
def Obligations.WriteAllAnswerBound : Prop :=
  ∀ (s t : State) (ks : List Nat), s.phase = .tx → s.txOff = 0 → s.retries = 0 →
    steps ks.length (feed (ks.map .txAns) s) = .next t → ks.length ≤ 13

/-- A read_exact(n) takes at most n + 9 answers (D6; log 18). -/
def Obligations.ReadExactAnswerBound : Prop :=
  ∀ (s t : State) (bss : List (List Byte)), s.phase = .rx → s.rxCnt = 0 → s.retries = 0 → s.rxLen ≠ 0 →
    steps bss.length (feed (bss.map .rxAns) s) = .next t → bss.length ≤ s.rxLen.toNat + 9

/-- However the link cuts the frame up, TX receives exactly its bytes once each, in order: after any answers, the first
TX_OFF of them, and the next attempt offers the rest. -/
def Obligations.TxReceivesTheFrameInOrder : Prop :=
  ∀ (s t : State) (ks : List Nat), s.phase = .tx → s.txOff = 0 →
    steps ks.length (feed (ks.map .txAns) s) = .next t →
    t.txOff.toNat = ks.sum ∧ t.txStream = s.txStream ++ s.fr.bytes.take ks.sum ∧
      (t.phase = .tx → outstanding t = some (.offer (s.fr.bytes.drop ks.sum))) ∧
      (t.phase = .settle ↔ ks.sum = 4)

/-- A write-type operation from START to OK: any answers that move the four bytes with at most nine empty ones (D6; log
18), then 200 TICKs (D21). -/
def Obligations.WriteOperationRuns : Prop :=
  ∀ (s : State) (op : Op) (loc data : Byte) (ks : List Nat),
    s.phase = .idle → op ∈ [Op.writeReg, .writeEeprom, .shortPush, .longPush] →
    ks.sum = 4 → ks.getLast? ≠ some 0 → ks.count 0 ≤ 9 →
    ∃ t, steps (1 + ks.length + 200)
        (feed (.start (selectorOf op) loc data :: (ks.map .txAns ++ ticks 200)) s) = .next t ∧
      t.phase = .idle ∧ t.status = .ok ∧ t.gArmed = false ∧ t.curOp = op ∧ t.fr = frameOf s.cfg.toConfig op loc data ∧
      t.txOff = 4 ∧ t.retries = BitVec.ofNat 4 (ks.count 0) ∧
      t.txStream = s.txStream ++ (frameOf s.cfg.toConfig op loc data).bytes ∧
      t.rxTaken = s.rxTaken ∧ t.rb = s.rb ∧ t.wait = s.wait ∧ t.events = s.events

/-- A read from START to its judgement: any answers that move the frame, 200 TICKs, any answers that deliver the two bytes
of the response, with at most nine empty ones in each call (D6, D21; log 18). -/
def Obligations.ReadOperationRuns : Prop :=
  ∀ (s : State) (op : Op) (loc data code x : Byte) (ks : List Nat) (bss : List (List Byte)),
    s.phase = .idle → op ∈ [Op.readReg, .readEeprom] →
    ks.sum = 4 → ks.getLast? ≠ some 0 → ks.count 0 ≤ 9 →
    bss.flatten = [code, x] → bss.getLast? ≠ some [] → bss.count [] ≤ 9 →
    ∃ t, steps (1 + ks.length + 200 + bss.length)
        (feed (.start (selectorOf op) loc data :: (ks.map .txAns ++ ticks 200 ++ bss.map .rxAns)) s) = .next t ∧
      t.phase = .idle ∧ t.gArmed = false ∧ t.curOp = op ∧ t.fr = frameOf s.cfg.toConfig op loc 0 ∧
      (match decodeResponse s.cfg.toConfig code x with
        | .ok v => t.status = .ok ∧ t.value = v
        | .err st => t.status = st) ∧
      t.rb = ⟨code, x⟩ ∧ t.rxCnt = 2 ∧ t.retries = BitVec.ofNat 4 (bss.count []) ∧
      t.txStream = s.txStream ++ (frameOf s.cfg.toConfig op loc 0).bytes ∧ t.rxTaken = s.rxTaken ++ [code, x] ∧
      t.wait = s.wait ∧ t.events = s.events

/-- PROBE from START to its judgement, with at most nine empty answers in each call (D6, D10, D21; log 18). -/
def Obligations.ProbeOperationRuns : Prop :=
  ∀ (s : State) (loc data b : Byte) (ks : List Nat) (bss : List (List Byte)),
    s.phase = .idle → ks.sum = 4 → ks.getLast? ≠ some 0 → ks.count 0 ≤ 9 →
    bss.flatten = [b] → bss.getLast? ≠ some [] → bss.count [] ≤ 9 →
    ∃ t, steps (1 + ks.length + 200 + bss.length)
        (feed (.start 6 loc data :: (ks.map .txAns ++ ticks 200 ++ bss.map .rxAns)) s) = .next t ∧
      t.phase = .idle ∧ t.gArmed = false ∧ t.status = (if b = 0x80 then .ok else .testFailed) ∧ t.value = b ∧
      t.rb = ⟨b, s.rb.b1⟩ ∧ t.rxCnt = 1 ∧ t.txStream = s.txStream ++ (probeFrame s.cfg.toConfig).bytes ∧
      t.rxTaken = s.rxTaken ++ [b] ∧ t.wait = s.wait ∧ t.events = s.events

/-- No operation holds BUSY for ever: whatever is in flight in a legal state, with a silent link WAIT + 200 TICKs end it
(the figures follow from D21 and the guard). -/
def Obligations.SilenceEndsEveryOperation : Prop :=
  ∀ (s : State) (n : Nat), Legal s → s.wait.toNat + 200 ≤ n →
    ∃ t, steps n (feed (ticks n) s) = .next t ∧ t.phase = .idle ∧ t.gArmed = false ∧ t.txStream = s.txStream ∧
      t.rxTaken = s.rxTaken ∧ t.events = s.events

/-! ## The host's programs -/

/-- gettime of what setdaytime wrote gives back hour, minute and second, and the day byte is day - 1: nothing is lost in
the bytes (43_host_command_set.md section 2, derived there). The spec gives the second no range: here it is any a byte
holds, the model's choice (log 21). -/
def Obligations.GettimeOfSetdaytime : Prop :=
  ∀ w : WallClock, w.InRange →
    timeOf (hourCode w) (minuteCode w) (secondCode w) = ⟨w.hour, w.minute, w.second⟩ ∧
      (dayCode w).toNat + 1 = w.day

/-- save reads the 45 locations in increasing order and gives their bytes; restore of that file issues exactly the 45
writes with the same bytes to the same locations in the same order, whatever VALUE holds after each write. -/
def Obligations.SaveRestoreRoundTrip : Prop :=
  ∀ (h : HostConfig) (image rest : List Byte), image.length = 45 → rest.length = 45 →
    play (scriptSave h) (image.map fun b => (.ok, b)) =
      ((List.range 45).map fun k => .readEeprom (BitVec.ofNat 8 (h.configStart.toNat + k)), .done (.configuration image)) ∧
    play (scriptRestore h (some image)) (rest.map fun b => (.ok, b)) =
      ((List.range 45).map fun k =>
        .writeEeprom (BitVec.ofNat 8 (h.configStart.toNat + k)) (image.getD k 0), .done .nothing)

/-- While the result of a command is open, the first operation whose STATUS is not OK ends it with that STATUS, and no
later one is started. The closing sleep writes of powercycle stand outside: its result is settled before them
(PowercycleSurvivesItsSleepWrites). -/
def Obligations.FailedOperationEndsTheCommand : Prop :=
  ∀ (h : HostConfig) (c : Command) (outs later : List (Status × Byte)) (st : Status) (v : Byte),
    st ≠ .ok → (play (commandScript h c) outs).2 = .unfinished →
    play (commandScript h c) (outs ++ (st, v) :: later) = ((play (commandScript h c) outs).1, .failed st)

/-- Once the five operations up to LONG_PUSH are OK, powercycle has succeeded: the three sleep writes follow, each whatever
the STATUS of the ones before it, and neither their outcomes nor a host that stops during or between them changes the
result (U18). -/
def Obligations.PowercycleSurvivesItsSleepWrites : Prop :=
  ∀ (h : HostConfig) (first closing : List (Status × Byte)), first.length = 5 → (∀ o ∈ first, o.1 = .ok) →
    let sequence := List.replicate 3 (Instr.writeReg 0x29 0x00) ++ [.writeReg 0x66 0x17, .longPush]
    let sleep := List.replicate 3 (Instr.writeReg 0x29 0x10)
    play (commandScript h .powercycle) (first ++ closing) =
      (sequence ++ sleep.take (closing.length + 1), .done .nothing) ∧
    stopAfter (commandScript h .powercycle) (first ++ closing) =
      (sequence ++ sleep.take closing.length, .done .nothing) ∧
    scriptExitClass (play (commandScript h .powercycle) (first ++ closing)).2 = some .success
end

