-- ==== Sys2Proof/Laws/Commands.lean ====
section
/-! SUPPORT. How a command plays, operation by operation; the configuration block of an admissible host; and which
configurations a machine can have. -/

namespace Sys2Proof

theorem Config.accept_of_admissible {c : Config} (h : c.Admissible) : c.accept = some ⟨c, h⟩ := dif_pos h

theorem Config.accept_eq_none_iff {c : Config} : c.accept = none ↔ ¬ c.Admissible := by
  unfold Config.accept
  split <;> simp_all

namespace Machine

variable {α : Type} (i : Instr) (rest : Byte → Script α) (sc : Script α) (outs : List (Status × Byte)) (v : Byte)

@[simp] theorem play_done (a : α) : play (.done a) outs = ([], .done a) := by cases outs <;> rfl
@[simp] theorem play_localError : play (.localError : Script α) outs = ([], .localError) := by cases outs <;> rfl
@[simp] theorem play_pause (ms : Nat) : play (.pause ms sc) outs = play sc outs := by cases outs <;> rfl
@[simp] theorem play_run_nil : play (.run i rest) [] = ([i], .unfinished) := rfl
@[simp] theorem play_run_ok :
    play (.run i rest) ((.ok, v) :: outs) = (i :: (play (rest v) outs).1, (play (rest v) outs).2) := rfl

theorem play_run_failed {st : Status} (h : st ≠ .ok) : play (.run i rest) ((st, v) :: outs) = ([i], .failed st) :=
  if_neg h

@[simp] theorem play_attempt_nil : play (.attempt i sc) [] = ([i], (play sc []).2) := rfl
@[simp] theorem play_attempt_cons (o : Status × Byte) :
    play (.attempt i sc) (o :: outs) = (i :: (play sc outs).1, (play sc outs).2) := rfl

/-- An attempted operation changes the result of its command neither by its outcome nor by having none (R214). -/
theorem play_attempt_result : (play (.attempt i sc) outs).2 = (play sc outs.tail).2 := by cases outs <;> rfl

/-- The closing writes of powercycle leave the result of what follows, whatever comes in for them (R214, U18). -/
theorem play_trySleep_done (a : α) : (play (trySleep (.done a)) outs).2 = .done a := by
  simp [trySleep, play_attempt_result]

/-- The configuration block has 45 locations, in increasing order (R60, D27). -/
theorem configLocations_eq (h : HostConfig) :
    configLocations h = (List.range 45).map fun k => BitVec.ofNat 8 (h.configStart.toNat + k) := by
  unfold configLocations
  rw [show h.configEnd.toNat + 1 - h.configStart.toNat = 45 by have := h.range; simp only [configLen] at this; omega]

end Machine
end Sys2Proof
end

