-- ==== Sys2Proof/Laws/Decode.lean ====
section
/-! SUPPORT. The fields of an encoded frame, and what the response buffer holds after a store. -/

namespace Sys2Proof

@[simp] theorem frameEncode_command (c l d : Byte) : (frameEncode c l d).command = c := rfl
@[simp] theorem frameEncode_location (c l d : Byte) : (frameEncode c l d).location = l := rfl
@[simp] theorem frameEncode_data (c l d : Byte) : (frameEncode c l d).data = d := rfl
@[simp] theorem frameEncode_checksum (c l d : Byte) : (frameEncode c l d).checksum = c ^^^ Config.checkMask := rfl

theorem Frame.bytes_length (f : Frame) : f.bytes.length = 4 := rfl

/-- Every frame an operation loads is a result of encode (R170). -/
theorem Machine.frameOf_eq_frameEncode (cfg : Config) (op : Op) (loc data : Byte) :
    ∃ c l d, Machine.frameOf cfg op loc data = frameEncode c l d := by
  cases op <;> exact ⟨_, _, _, rfl⟩

theorem Machine.frameOf_checksum (cfg : Config) (op : Op) (loc data : Byte) :
    (Machine.frameOf cfg op loc data).checksum =
      (Machine.frameOf cfg op loc data).command ^^^ Config.checkMask := by
  cases op <;> rfl

/-- The frame of an operation determines itself from its own location and data bytes (R23: FR holds the only copy of the
operands). -/
theorem Machine.frameOf_self (cfg : Config) (op : Op) (loc data : Byte) :
    Machine.frameOf cfg op (Machine.frameOf cfg op loc data).location (Machine.frameOf cfg op loc data).data =
      Machine.frameOf cfg op loc data := by
  cases op <;> rfl

theorem Machine.rxLenOf_le (op : Op) : (Machine.rxLenOf op).toNat ≤ 2 := by cases op <;> decide

theorem Machine.rxLenOf_read {op : Op} (h : Machine.isReadOp op = true) : Machine.rxLenOf op = 2 := by
  cases op <;> simp_all [Machine.isReadOp] <;> rfl

end Sys2Proof
end

