-- ==== Sys2Proof/Laws/State.lean ====
section
/-! SUPPORT. Every field of the state after every named update (one line each, by unfolding once), so that no later proof
unfolds a record update. -/

namespace Sys2Proof.Machine

variable (s : State)


/-! ## arm -/

@[simp] theorem arm_phase : (arm s).phase = s.phase := rfl
@[simp] theorem arm_curOp : (arm s).curOp = s.curOp := rfl
@[simp] theorem arm_fr : (arm s).fr = s.fr := rfl
@[simp] theorem arm_txOff : (arm s).txOff = s.txOff := rfl
@[simp] theorem arm_rb : (arm s).rb = s.rb := rfl
@[simp] theorem arm_rxLen : (arm s).rxLen = s.rxLen := rfl
@[simp] theorem arm_rxCnt : (arm s).rxCnt = s.rxCnt := rfl
@[simp] theorem arm_retries : (arm s).retries = s.retries := rfl
@[simp] theorem arm_gArmed : (arm s).gArmed = true := rfl
@[simp] theorem arm_gCnt : (arm s).gCnt = 0 := rfl
@[simp] theorem arm_sCnt : (arm s).sCnt = s.sCnt := rfl
@[simp] theorem arm_wait : (arm s).wait = s.wait := rfl
@[simp] theorem arm_status : (arm s).status = s.status := rfl
@[simp] theorem arm_value : (arm s).value = s.value := rfl
@[simp] theorem arm_txStream : (arm s).txStream = s.txStream := rfl
@[simp] theorem arm_rxTaken : (arm s).rxTaken = s.rxTaken := rfl
@[simp] theorem arm_events : (arm s).events = s.events := rfl
@[simp] theorem arm_freeCount : (arm s).freeCount = s.freeCount := rfl
@[simp] theorem arm_cfg : (arm s).cfg = s.cfg := rfl

/-! ## disarm -/

@[simp] theorem disarm_phase : (disarm s).phase = s.phase := rfl
@[simp] theorem disarm_curOp : (disarm s).curOp = s.curOp := rfl
@[simp] theorem disarm_fr : (disarm s).fr = s.fr := rfl
@[simp] theorem disarm_txOff : (disarm s).txOff = s.txOff := rfl
@[simp] theorem disarm_rb : (disarm s).rb = s.rb := rfl
@[simp] theorem disarm_rxLen : (disarm s).rxLen = s.rxLen := rfl
@[simp] theorem disarm_rxCnt : (disarm s).rxCnt = s.rxCnt := rfl
@[simp] theorem disarm_retries : (disarm s).retries = s.retries := rfl
@[simp] theorem disarm_gArmed : (disarm s).gArmed = false := rfl
@[simp] theorem disarm_gCnt : (disarm s).gCnt = s.gCnt := rfl
@[simp] theorem disarm_sCnt : (disarm s).sCnt = s.sCnt := rfl
@[simp] theorem disarm_wait : (disarm s).wait = s.wait := rfl
@[simp] theorem disarm_status : (disarm s).status = s.status := rfl
@[simp] theorem disarm_value : (disarm s).value = s.value := rfl
@[simp] theorem disarm_txStream : (disarm s).txStream = s.txStream := rfl
@[simp] theorem disarm_rxTaken : (disarm s).rxTaken = s.rxTaken := rfl
@[simp] theorem disarm_events : (disarm s).events = s.events := rfl
@[simp] theorem disarm_freeCount : (disarm s).freeCount = s.freeCount := rfl
@[simp] theorem disarm_cfg : (disarm s).cfg = s.cfg := rfl

/-! ## forgetValue -/

@[simp] theorem forgetValue_phase : (forgetValue s).phase = s.phase := rfl
@[simp] theorem forgetValue_curOp : (forgetValue s).curOp = s.curOp := rfl
@[simp] theorem forgetValue_fr : (forgetValue s).fr = s.fr := rfl
@[simp] theorem forgetValue_txOff : (forgetValue s).txOff = s.txOff := rfl
@[simp] theorem forgetValue_rb : (forgetValue s).rb = s.rb := rfl
@[simp] theorem forgetValue_rxLen : (forgetValue s).rxLen = s.rxLen := rfl
@[simp] theorem forgetValue_rxCnt : (forgetValue s).rxCnt = s.rxCnt := rfl
@[simp] theorem forgetValue_retries : (forgetValue s).retries = s.retries := rfl
@[simp] theorem forgetValue_gArmed : (forgetValue s).gArmed = s.gArmed := rfl
@[simp] theorem forgetValue_gCnt : (forgetValue s).gCnt = s.gCnt := rfl
@[simp] theorem forgetValue_sCnt : (forgetValue s).sCnt = s.sCnt := rfl
@[simp] theorem forgetValue_wait : (forgetValue s).wait = s.wait := rfl
@[simp] theorem forgetValue_status : (forgetValue s).status = s.status := rfl
@[simp] theorem forgetValue_value : (forgetValue s).value = Config.freeByte s.freeCount := rfl
@[simp] theorem forgetValue_txStream : (forgetValue s).txStream = s.txStream := rfl
@[simp] theorem forgetValue_rxTaken : (forgetValue s).rxTaken = s.rxTaken := rfl
@[simp] theorem forgetValue_events : (forgetValue s).events = s.events := rfl
@[simp] theorem forgetValue_freeCount : (forgetValue s).freeCount = s.freeCount + 1 := rfl
@[simp] theorem forgetValue_cfg : (forgetValue s).cfg = s.cfg := rfl

/-! ## finish -/

@[simp] theorem finish_phase (st : Status) : (finish st s).phase = .idle := rfl
@[simp] theorem finish_curOp (st : Status) : (finish st s).curOp = s.curOp := rfl
@[simp] theorem finish_fr (st : Status) : (finish st s).fr = s.fr := rfl
@[simp] theorem finish_txOff (st : Status) : (finish st s).txOff = s.txOff := rfl
@[simp] theorem finish_rb (st : Status) : (finish st s).rb = s.rb := rfl
@[simp] theorem finish_rxLen (st : Status) : (finish st s).rxLen = s.rxLen := rfl
@[simp] theorem finish_rxCnt (st : Status) : (finish st s).rxCnt = s.rxCnt := rfl
@[simp] theorem finish_retries (st : Status) : (finish st s).retries = s.retries := rfl
@[simp] theorem finish_gArmed (st : Status) : (finish st s).gArmed = false := rfl
@[simp] theorem finish_gCnt (st : Status) : (finish st s).gCnt = s.gCnt := rfl
@[simp] theorem finish_sCnt (st : Status) : (finish st s).sCnt = s.sCnt := rfl
@[simp] theorem finish_wait (st : Status) : (finish st s).wait = s.wait := rfl
@[simp] theorem finish_status (st : Status) : (finish st s).status = st := rfl
@[simp] theorem finish_value (st : Status) : (finish st s).value = s.value := rfl
@[simp] theorem finish_txStream (st : Status) : (finish st s).txStream = s.txStream := rfl
@[simp] theorem finish_rxTaken (st : Status) : (finish st s).rxTaken = s.rxTaken := rfl
@[simp] theorem finish_events (st : Status) : (finish st s).events = s.events := rfl
@[simp] theorem finish_freeCount (st : Status) : (finish st s).freeCount = s.freeCount := rfl
@[simp] theorem finish_cfg (st : Status) : (finish st s).cfg = s.cfg := rfl

/-! ## raise -/

@[simp] theorem raise_phase (st : Status) : (raise st s).phase = .idle := rfl
@[simp] theorem raise_curOp (st : Status) : (raise st s).curOp = s.curOp := rfl
@[simp] theorem raise_fr (st : Status) : (raise st s).fr = s.fr := rfl
@[simp] theorem raise_txOff (st : Status) : (raise st s).txOff = s.txOff := rfl
@[simp] theorem raise_rb (st : Status) : (raise st s).rb = s.rb := rfl
@[simp] theorem raise_rxLen (st : Status) : (raise st s).rxLen = s.rxLen := rfl
@[simp] theorem raise_rxCnt (st : Status) : (raise st s).rxCnt = s.rxCnt := rfl
@[simp] theorem raise_retries (st : Status) : (raise st s).retries = s.retries := rfl
@[simp] theorem raise_gArmed (st : Status) : (raise st s).gArmed = false := rfl
@[simp] theorem raise_gCnt (st : Status) : (raise st s).gCnt = s.gCnt := rfl
@[simp] theorem raise_sCnt (st : Status) : (raise st s).sCnt = s.sCnt := rfl
@[simp] theorem raise_wait (st : Status) : (raise st s).wait = s.wait := rfl
@[simp] theorem raise_status (st : Status) : (raise st s).status = st := rfl
@[simp] theorem raise_value (st : Status) : (raise st s).value = Config.freeByte s.freeCount := rfl
@[simp] theorem raise_txStream (st : Status) : (raise st s).txStream = s.txStream := rfl
@[simp] theorem raise_rxTaken (st : Status) : (raise st s).rxTaken = s.rxTaken := rfl
@[simp] theorem raise_events (st : Status) : (raise st s).events = s.events := rfl
@[simp] theorem raise_freeCount (st : Status) : (raise st s).freeCount = s.freeCount + 1 := rfl
@[simp] theorem raise_cfg (st : Status) : (raise st s).cfg = s.cfg := rfl

/-! ## raiseWithValue -/

@[simp] theorem raiseWithValue_phase (st : Status) (v : Byte) : (raiseWithValue st v s).phase = .idle := rfl
@[simp] theorem raiseWithValue_curOp (st : Status) (v : Byte) : (raiseWithValue st v s).curOp = s.curOp := rfl
@[simp] theorem raiseWithValue_fr (st : Status) (v : Byte) : (raiseWithValue st v s).fr = s.fr := rfl
@[simp] theorem raiseWithValue_txOff (st : Status) (v : Byte) : (raiseWithValue st v s).txOff = s.txOff := rfl
@[simp] theorem raiseWithValue_rb (st : Status) (v : Byte) : (raiseWithValue st v s).rb = s.rb := rfl
@[simp] theorem raiseWithValue_rxLen (st : Status) (v : Byte) : (raiseWithValue st v s).rxLen = s.rxLen := rfl
@[simp] theorem raiseWithValue_rxCnt (st : Status) (v : Byte) : (raiseWithValue st v s).rxCnt = s.rxCnt := rfl
@[simp] theorem raiseWithValue_retries (st : Status) (v : Byte) : (raiseWithValue st v s).retries = s.retries := rfl
@[simp] theorem raiseWithValue_gArmed (st : Status) (v : Byte) : (raiseWithValue st v s).gArmed = false := rfl
@[simp] theorem raiseWithValue_gCnt (st : Status) (v : Byte) : (raiseWithValue st v s).gCnt = s.gCnt := rfl
@[simp] theorem raiseWithValue_sCnt (st : Status) (v : Byte) : (raiseWithValue st v s).sCnt = s.sCnt := rfl
@[simp] theorem raiseWithValue_wait (st : Status) (v : Byte) : (raiseWithValue st v s).wait = s.wait := rfl
@[simp] theorem raiseWithValue_status (st : Status) (v : Byte) : (raiseWithValue st v s).status = st := rfl
@[simp] theorem raiseWithValue_value (st : Status) (v : Byte) : (raiseWithValue st v s).value = v := rfl
@[simp] theorem raiseWithValue_txStream (st : Status) (v : Byte) : (raiseWithValue st v s).txStream = s.txStream := rfl
@[simp] theorem raiseWithValue_rxTaken (st : Status) (v : Byte) : (raiseWithValue st v s).rxTaken = s.rxTaken := rfl
@[simp] theorem raiseWithValue_events (st : Status) (v : Byte) : (raiseWithValue st v s).events = s.events := rfl
@[simp] theorem raiseWithValue_freeCount (st : Status) (v : Byte) : (raiseWithValue st v s).freeCount = s.freeCount := rfl
@[simp] theorem raiseWithValue_cfg (st : Status) (v : Byte) : (raiseWithValue st v s).cfg = s.cfg := rfl

/-! ## clearStatus -/

@[simp] theorem clearStatus_phase : (clearStatus s).phase = s.phase := rfl
@[simp] theorem clearStatus_curOp : (clearStatus s).curOp = s.curOp := rfl
@[simp] theorem clearStatus_fr : (clearStatus s).fr = s.fr := rfl
@[simp] theorem clearStatus_txOff : (clearStatus s).txOff = s.txOff := rfl
@[simp] theorem clearStatus_rb : (clearStatus s).rb = s.rb := rfl
@[simp] theorem clearStatus_rxLen : (clearStatus s).rxLen = s.rxLen := rfl
@[simp] theorem clearStatus_rxCnt : (clearStatus s).rxCnt = s.rxCnt := rfl
@[simp] theorem clearStatus_retries : (clearStatus s).retries = s.retries := rfl
@[simp] theorem clearStatus_gArmed : (clearStatus s).gArmed = s.gArmed := rfl
@[simp] theorem clearStatus_gCnt : (clearStatus s).gCnt = s.gCnt := rfl
@[simp] theorem clearStatus_sCnt : (clearStatus s).sCnt = s.sCnt := rfl
@[simp] theorem clearStatus_wait : (clearStatus s).wait = s.wait := rfl
@[simp] theorem clearStatus_status : (clearStatus s).status = .none := rfl
@[simp] theorem clearStatus_value : (clearStatus s).value = s.value := rfl
@[simp] theorem clearStatus_txStream : (clearStatus s).txStream = s.txStream := rfl
@[simp] theorem clearStatus_rxTaken : (clearStatus s).rxTaken = s.rxTaken := rfl
@[simp] theorem clearStatus_events : (clearStatus s).events = s.events := rfl
@[simp] theorem clearStatus_freeCount : (clearStatus s).freeCount = s.freeCount := rfl
@[simp] theorem clearStatus_cfg : (clearStatus s).cfg = s.cfg := rfl

/-! ## writeAllEntry -/

@[simp] theorem writeAllEntry_phase : (writeAllEntry s).phase = .tx := rfl
@[simp] theorem writeAllEntry_curOp : (writeAllEntry s).curOp = s.curOp := rfl
@[simp] theorem writeAllEntry_fr : (writeAllEntry s).fr = s.fr := rfl
@[simp] theorem writeAllEntry_txOff : (writeAllEntry s).txOff = 0 := rfl
@[simp] theorem writeAllEntry_rb : (writeAllEntry s).rb = s.rb := rfl
@[simp] theorem writeAllEntry_rxLen : (writeAllEntry s).rxLen = s.rxLen := rfl
@[simp] theorem writeAllEntry_rxCnt : (writeAllEntry s).rxCnt = s.rxCnt := rfl
@[simp] theorem writeAllEntry_retries : (writeAllEntry s).retries = 0 := rfl
@[simp] theorem writeAllEntry_gArmed : (writeAllEntry s).gArmed = true := rfl
@[simp] theorem writeAllEntry_gCnt : (writeAllEntry s).gCnt = 0 := rfl
@[simp] theorem writeAllEntry_sCnt : (writeAllEntry s).sCnt = s.sCnt := rfl
@[simp] theorem writeAllEntry_wait : (writeAllEntry s).wait = s.wait := rfl
@[simp] theorem writeAllEntry_status : (writeAllEntry s).status = s.status := rfl
@[simp] theorem writeAllEntry_value : (writeAllEntry s).value = s.value := rfl
@[simp] theorem writeAllEntry_txStream : (writeAllEntry s).txStream = s.txStream := rfl
@[simp] theorem writeAllEntry_rxTaken : (writeAllEntry s).rxTaken = s.rxTaken := rfl
@[simp] theorem writeAllEntry_events : (writeAllEntry s).events = s.events := rfl
@[simp] theorem writeAllEntry_freeCount : (writeAllEntry s).freeCount = s.freeCount := rfl
@[simp] theorem writeAllEntry_cfg : (writeAllEntry s).cfg = s.cfg := rfl

/-! ## settleEntry -/

@[simp] theorem settleEntry_phase : (settleEntry s).phase = .settle := rfl
@[simp] theorem settleEntry_curOp : (settleEntry s).curOp = s.curOp := rfl
@[simp] theorem settleEntry_fr : (settleEntry s).fr = s.fr := rfl
@[simp] theorem settleEntry_txOff : (settleEntry s).txOff = s.txOff := rfl
@[simp] theorem settleEntry_rb : (settleEntry s).rb = s.rb := rfl
@[simp] theorem settleEntry_rxLen : (settleEntry s).rxLen = s.rxLen := rfl
@[simp] theorem settleEntry_rxCnt : (settleEntry s).rxCnt = s.rxCnt := rfl
@[simp] theorem settleEntry_retries : (settleEntry s).retries = s.retries := rfl
@[simp] theorem settleEntry_gArmed : (settleEntry s).gArmed = false := rfl
@[simp] theorem settleEntry_gCnt : (settleEntry s).gCnt = s.gCnt := rfl
@[simp] theorem settleEntry_sCnt : (settleEntry s).sCnt = 0 := rfl
@[simp] theorem settleEntry_wait : (settleEntry s).wait = s.wait := rfl
@[simp] theorem settleEntry_status : (settleEntry s).status = s.status := rfl
@[simp] theorem settleEntry_value : (settleEntry s).value = s.value := rfl
@[simp] theorem settleEntry_txStream : (settleEntry s).txStream = s.txStream := rfl
@[simp] theorem settleEntry_rxTaken : (settleEntry s).rxTaken = s.rxTaken := rfl
@[simp] theorem settleEntry_events : (settleEntry s).events = s.events := rfl
@[simp] theorem settleEntry_freeCount : (settleEntry s).freeCount = s.freeCount := rfl
@[simp] theorem settleEntry_cfg : (settleEntry s).cfg = s.cfg := rfl

/-! ## readExactEntry -/

@[simp] theorem readExactEntry_phase : (readExactEntry s).phase = .rx := rfl
@[simp] theorem readExactEntry_curOp : (readExactEntry s).curOp = s.curOp := rfl
@[simp] theorem readExactEntry_fr : (readExactEntry s).fr = s.fr := rfl
@[simp] theorem readExactEntry_txOff : (readExactEntry s).txOff = s.txOff := rfl
@[simp] theorem readExactEntry_rb : (readExactEntry s).rb = s.rb := rfl
@[simp] theorem readExactEntry_rxLen : (readExactEntry s).rxLen = s.rxLen := rfl
@[simp] theorem readExactEntry_rxCnt : (readExactEntry s).rxCnt = 0 := rfl
@[simp] theorem readExactEntry_retries : (readExactEntry s).retries = 0 := rfl
@[simp] theorem readExactEntry_gArmed : (readExactEntry s).gArmed = true := rfl
@[simp] theorem readExactEntry_gCnt : (readExactEntry s).gCnt = 0 := rfl
@[simp] theorem readExactEntry_sCnt : (readExactEntry s).sCnt = s.sCnt := rfl
@[simp] theorem readExactEntry_wait : (readExactEntry s).wait = s.wait := rfl
@[simp] theorem readExactEntry_status : (readExactEntry s).status = s.status := rfl
@[simp] theorem readExactEntry_value : (readExactEntry s).value = s.value := rfl
@[simp] theorem readExactEntry_txStream : (readExactEntry s).txStream = s.txStream := rfl
@[simp] theorem readExactEntry_rxTaken : (readExactEntry s).rxTaken = s.rxTaken := rfl
@[simp] theorem readExactEntry_events : (readExactEntry s).events = s.events := rfl
@[simp] theorem readExactEntry_freeCount : (readExactEntry s).freeCount = s.freeCount := rfl
@[simp] theorem readExactEntry_cfg : (readExactEntry s).cfg = s.cfg := rfl

/-! ## latchRequest -/

@[simp] theorem latchRequest_phase (op : Op) (loc data : Byte) : (latchRequest op loc data s).phase = s.phase := rfl
@[simp] theorem latchRequest_curOp (op : Op) (loc data : Byte) : (latchRequest op loc data s).curOp = op := rfl
@[simp] theorem latchRequest_fr (op : Op) (loc data : Byte) : (latchRequest op loc data s).fr = frameOf s.cfg.toConfig op loc data := rfl
@[simp] theorem latchRequest_txOff (op : Op) (loc data : Byte) : (latchRequest op loc data s).txOff = s.txOff := rfl
@[simp] theorem latchRequest_rb (op : Op) (loc data : Byte) : (latchRequest op loc data s).rb = s.rb := rfl
@[simp] theorem latchRequest_rxLen (op : Op) (loc data : Byte) : (latchRequest op loc data s).rxLen = rxLenOf op := rfl
@[simp] theorem latchRequest_rxCnt (op : Op) (loc data : Byte) : (latchRequest op loc data s).rxCnt = 0 := rfl
@[simp] theorem latchRequest_retries (op : Op) (loc data : Byte) : (latchRequest op loc data s).retries = s.retries := rfl
@[simp] theorem latchRequest_gArmed (op : Op) (loc data : Byte) : (latchRequest op loc data s).gArmed = s.gArmed := rfl
@[simp] theorem latchRequest_gCnt (op : Op) (loc data : Byte) : (latchRequest op loc data s).gCnt = s.gCnt := rfl
@[simp] theorem latchRequest_sCnt (op : Op) (loc data : Byte) : (latchRequest op loc data s).sCnt = s.sCnt := rfl
@[simp] theorem latchRequest_wait (op : Op) (loc data : Byte) : (latchRequest op loc data s).wait = s.wait := rfl
@[simp] theorem latchRequest_status (op : Op) (loc data : Byte) : (latchRequest op loc data s).status = s.status := rfl
@[simp] theorem latchRequest_value (op : Op) (loc data : Byte) : (latchRequest op loc data s).value = s.value := rfl
@[simp] theorem latchRequest_txStream (op : Op) (loc data : Byte) : (latchRequest op loc data s).txStream = s.txStream := rfl
@[simp] theorem latchRequest_rxTaken (op : Op) (loc data : Byte) : (latchRequest op loc data s).rxTaken = s.rxTaken := rfl
@[simp] theorem latchRequest_events (op : Op) (loc data : Byte) : (latchRequest op loc data s).events = s.events := rfl
@[simp] theorem latchRequest_freeCount (op : Op) (loc data : Byte) : (latchRequest op loc data s).freeCount = s.freeCount := rfl
@[simp] theorem latchRequest_cfg (op : Op) (loc data : Byte) : (latchRequest op loc data s).cfg = s.cfg := rfl

/-! ## acceptBytes -/

@[simp] theorem acceptBytes_phase (k : Nat) : (acceptBytes k s).phase = s.phase := rfl
@[simp] theorem acceptBytes_curOp (k : Nat) : (acceptBytes k s).curOp = s.curOp := rfl
@[simp] theorem acceptBytes_fr (k : Nat) : (acceptBytes k s).fr = s.fr := rfl
@[simp] theorem acceptBytes_txOff (k : Nat) : (acceptBytes k s).txOff = BitVec.ofNat 3 (s.txOff.toNat + k) := rfl
@[simp] theorem acceptBytes_rb (k : Nat) : (acceptBytes k s).rb = s.rb := rfl
@[simp] theorem acceptBytes_rxLen (k : Nat) : (acceptBytes k s).rxLen = s.rxLen := rfl
@[simp] theorem acceptBytes_rxCnt (k : Nat) : (acceptBytes k s).rxCnt = s.rxCnt := rfl
@[simp] theorem acceptBytes_retries (k : Nat) : (acceptBytes k s).retries = BitVec.ofNat 4 (retriesAfter s k) := rfl
@[simp] theorem acceptBytes_gArmed (k : Nat) : (acceptBytes k s).gArmed = s.gArmed := rfl
@[simp] theorem acceptBytes_gCnt (k : Nat) : (acceptBytes k s).gCnt = s.gCnt := rfl
@[simp] theorem acceptBytes_sCnt (k : Nat) : (acceptBytes k s).sCnt = s.sCnt := rfl
@[simp] theorem acceptBytes_wait (k : Nat) : (acceptBytes k s).wait = s.wait := rfl
@[simp] theorem acceptBytes_status (k : Nat) : (acceptBytes k s).status = s.status := rfl
@[simp] theorem acceptBytes_value (k : Nat) : (acceptBytes k s).value = s.value := rfl
@[simp] theorem acceptBytes_txStream (k : Nat) : (acceptBytes k s).txStream = s.txStream ++ (offered s).take k := rfl
@[simp] theorem acceptBytes_rxTaken (k : Nat) : (acceptBytes k s).rxTaken = s.rxTaken := rfl
@[simp] theorem acceptBytes_events (k : Nat) : (acceptBytes k s).events = s.events := rfl
@[simp] theorem acceptBytes_freeCount (k : Nat) : (acceptBytes k s).freeCount = s.freeCount := rfl
@[simp] theorem acceptBytes_cfg (k : Nat) : (acceptBytes k s).cfg = s.cfg := rfl

/-! ## deliverBytes -/

@[simp] theorem deliverBytes_phase (bs : List Byte) : (deliverBytes bs s).phase = s.phase := rfl
@[simp] theorem deliverBytes_curOp (bs : List Byte) : (deliverBytes bs s).curOp = s.curOp := rfl
@[simp] theorem deliverBytes_fr (bs : List Byte) : (deliverBytes bs s).fr = s.fr := rfl
@[simp] theorem deliverBytes_txOff (bs : List Byte) : (deliverBytes bs s).txOff = s.txOff := rfl
@[simp] theorem deliverBytes_rb (bs : List Byte) : (deliverBytes bs s).rb = rbStore s.rb s.rxCnt.toNat bs := rfl
@[simp] theorem deliverBytes_rxLen (bs : List Byte) : (deliverBytes bs s).rxLen = s.rxLen := rfl
@[simp] theorem deliverBytes_rxCnt (bs : List Byte) : (deliverBytes bs s).rxCnt = BitVec.ofNat 2 (s.rxCnt.toNat + bs.length) := rfl
@[simp] theorem deliverBytes_retries (bs : List Byte) : (deliverBytes bs s).retries = BitVec.ofNat 4 (retriesAfter s bs.length) := rfl
@[simp] theorem deliverBytes_gArmed (bs : List Byte) : (deliverBytes bs s).gArmed = s.gArmed := rfl
@[simp] theorem deliverBytes_gCnt (bs : List Byte) : (deliverBytes bs s).gCnt = s.gCnt := rfl
@[simp] theorem deliverBytes_sCnt (bs : List Byte) : (deliverBytes bs s).sCnt = s.sCnt := rfl
@[simp] theorem deliverBytes_wait (bs : List Byte) : (deliverBytes bs s).wait = s.wait := rfl
@[simp] theorem deliverBytes_status (bs : List Byte) : (deliverBytes bs s).status = s.status := rfl
@[simp] theorem deliverBytes_value (bs : List Byte) : (deliverBytes bs s).value = s.value := rfl
@[simp] theorem deliverBytes_txStream (bs : List Byte) : (deliverBytes bs s).txStream = s.txStream := rfl
@[simp] theorem deliverBytes_rxTaken (bs : List Byte) : (deliverBytes bs s).rxTaken = s.rxTaken ++ bs := rfl
@[simp] theorem deliverBytes_events (bs : List Byte) : (deliverBytes bs s).events = s.events := rfl
@[simp] theorem deliverBytes_freeCount (bs : List Byte) : (deliverBytes bs s).freeCount = s.freeCount := rfl
@[simp] theorem deliverBytes_cfg (bs : List Byte) : (deliverBytes bs s).cfg = s.cfg := rfl

/-! ## resetBlock: the elements to which R37 gives a value, and what is not the block's -/

@[simp] theorem resetBlock_phase : (resetBlock s).phase = .idle := rfl
@[simp] theorem resetBlock_txOff : (resetBlock s).txOff = 0 := rfl
@[simp] theorem resetBlock_rxLen : (resetBlock s).rxLen = 0 := rfl
@[simp] theorem resetBlock_rxCnt : (resetBlock s).rxCnt = 0 := rfl
@[simp] theorem resetBlock_retries : (resetBlock s).retries = 0 := rfl
@[simp] theorem resetBlock_gArmed : (resetBlock s).gArmed = false := rfl
@[simp] theorem resetBlock_wait : (resetBlock s).wait = BitVec.ofNat 32 Config.waitDefault := rfl
@[simp] theorem resetBlock_status : (resetBlock s).status = .none := rfl
@[simp] theorem resetBlock_txStream : (resetBlock s).txStream = s.txStream := rfl
@[simp] theorem resetBlock_rxTaken : (resetBlock s).rxTaken = s.rxTaken := rfl
@[simp] theorem resetBlock_events : (resetBlock s).events = s.events := rfl
@[simp] theorem resetBlock_cfg : (resetBlock s).cfg = s.cfg := rfl

/-! ## State.reset: the elements to which R37 gives a value, and the OPEN parameters -/

@[simp] theorem reset_phase : State.reset.phase = .idle := rfl
@[simp] theorem reset_txOff : State.reset.txOff = 0 := rfl
@[simp] theorem reset_rxLen : State.reset.rxLen = 0 := rfl
@[simp] theorem reset_rxCnt : State.reset.rxCnt = 0 := rfl
@[simp] theorem reset_retries : State.reset.retries = 0 := rfl
@[simp] theorem reset_gArmed : State.reset.gArmed = false := rfl
@[simp] theorem reset_wait : State.reset.wait = BitVec.ofNat 32 Config.waitDefault := rfl
@[simp] theorem reset_status : State.reset.status = .none := rfl
@[simp] theorem reset_cfg : State.reset.cfg = Config.machine := rfl

end Sys2Proof.Machine
end

