-- ==== Sys2Proof/Laws/Ops.lean ====
section
/-! SUPPORT. What each shared operation can do, said once: under which condition it answers a next state, and which. -/

namespace Sys2Proof.Machine

/-! ## Start -/

theorem startOp_idle {s : State} (h : s.phase = .idle) (op : Op) (loc data : Byte) :
    startOp op loc data s = .next (writeAllEntry (forgetValue (clearStatus (latchRequest op loc data s)))) := by
  simp [startOp, h]

theorem startOp_busy {s : State} (h : s.phase ≠ .idle) (op : Op) (loc data : Byte) :
    startOp op loc data s = .refused .startWhileBusy := by
  cases hp : s.phase <;> simp_all [startOp]

/-- A request runs as the START of its operation, and an operand it does not have does not matter (R90, R170). -/
theorem exec_requestOf (op : Op) (loc data : Byte) (s : State) :
    exec (requestOf op loc data) s = startOp op loc data s := by
  cases op <;> cases hp : s.phase <;>
    simp [exec, requestOf, execReadReg, execReadEeprom, execWriteReg, execWriteEeprom, execShortPush, execLongPush,
      execProbe, startOp, hp, latchRequest, frameOf]

theorem startEvent_next_iff {sel : BitVec 3} {loc data : Byte} {s t : State} :
    startEvent sel loc data s = .next t ↔
      s.phase = .idle ∧ ∃ op, opOfSelector sel = some op ∧
        t = writeAllEntry (forgetValue (clearStatus (latchRequest op loc data s))) := by
  unfold startEvent decodeStart
  cases ho : opOfSelector sel with
  | none => simp
  | some op =>
    by_cases hp : s.phase = .idle
    · simp [exec_requestOf, startOp_idle hp, hp, eq_comm]
    · simp [exec_requestOf, startOp_busy hp, hp]

/-! ## The channel -/

theorem txAns_next_iff {k : Nat} {s t : State} :
    txAns k s = .next t ↔ s.phase = .tx ∧ s.txOff.toNat + k ≤ Config.frameLen ∧ t = writeProgress k s := by
  unfold txAns
  cases hp : s.phase <;> simp
  split <;> rename_i hk <;> simp [hk, eq_comm (a := t)]

theorem txErr_next_iff {s t : State} : txErr s = .next t ↔ s.phase = .tx ∧ t = raise .ioError (disarm s) := by
  unfold txErr
  cases hp : s.phase <;> simp [eq_comm]

theorem rxErr_next_iff {s t : State} : rxErr s = .next t ↔ s.phase = .rx ∧ t = raise .ioError (disarm s) := by
  unfold rxErr
  cases hp : s.phase <;> simp [eq_comm]

theorem cfgWait_next_iff {v : Word32} {s t : State} :
    cfgWait v s = .next t ↔ s.phase = .idle ∧ v ≠ 0 ∧ t = { s with wait := v } := by
  unfold cfgWait
  cases hp : s.phase <;> simp
  split <;> rename_i hv <;> simp [hv, eq_comm (a := t)]

theorem tick_next_iff {s t : State} :
    tick s = .next t ↔
      (s.phase = .idle ∧ t = s) ∨ ((s.phase = .tx ∨ s.phase = .rx) ∧ t = guardTick s) ∨
        (s.phase = .settle ∧ t = settleTick s) := by
  unfold tick
  cases hp : s.phase <;> simp [eq_comm]

/-- The two ways an accepted count leaves the write going, and the two ways it ends it (R135). -/
theorem writeProgress_cases (k : Nat) (s : State) :
    (s.txOff.toNat + k = 4 ∧ writeProgress k s = settleEntry (acceptBytes k s)) ∨
    (s.txOff.toNat + k ≠ 4 ∧ retriesAfter s k = 10 ∧
      writeProgress k s = raise .incomplete (disarm (acceptBytes k s))) ∨
    (s.txOff.toNat + k ≠ 4 ∧ retriesAfter s k ≠ 10 ∧ writeProgress k s = acceptBytes k s) := by
  unfold writeProgress
  split
  · exact .inl ⟨‹_›, rfl⟩
  · split
    · exact .inr (.inl ⟨‹_›, ‹_›, rfl⟩)
    · exact .inr (.inr ⟨‹_›, ‹_›, rfl⟩)

theorem guardTick_cases (s : State) :
    (s.gCnt.toNat + 1 = s.wait.toNat ∧ guardTick s = raise .timeout (disarm s)) ∨
    (s.gCnt.toNat + 1 ≠ s.wait.toNat ∧ guardTick s = { s with gCnt := BitVec.ofNat 32 (s.gCnt.toNat + 1) }) := by
  unfold guardTick
  split
  · exact .inl ⟨‹_›, rfl⟩
  · exact .inr ⟨‹_›, rfl⟩

theorem settleTick_cases (s : State) :
    (s.sCnt.toNat + 1 = 200 ∧ s.rxLen = 0 ∧ settleTick s = raise .ok s) ∨
    (s.sCnt.toNat + 1 = 200 ∧ s.rxLen ≠ 0 ∧ settleTick s = readExactEntry s) ∨
    (s.sCnt.toNat + 1 ≠ 200 ∧ settleTick s = { s with sCnt := BitVec.ofNat 8 (s.sCnt.toNat + 1) }) := by
  unfold settleTick
  split
  · split
    · exact .inl ⟨‹_›, ‹_›, rfl⟩
    · exact .inr (.inl ⟨‹_›, ‹_›, rfl⟩)
  · exact .inr (.inr ⟨‹_›, rfl⟩)

/-! ## The judgement -/

theorem resp2Due_iff {s : State} : resp2Due s = true ↔ s.phase = .rx ∧ s.rxCnt = s.rxLen ∧ isReadOp s.curOp = true := by
  simp [resp2Due, responseComplete, and_assoc]

theorem resp1Due_iff {s : State} :
    resp1Due s = true ↔ s.phase = .rx ∧ s.rxCnt = s.rxLen ∧ isReadOp s.curOp = false := by
  simp [resp1Due, responseComplete, and_assoc]

theorem judgeOk_next_iff {v : Byte} {s t : State} :
    judgeOk v s = .next t ↔ resp2Due s = true ∧ t = raiseWithValue .ok v s := by
  unfold judgeOk
  split <;> rename_i hd <;> simp [hd, eq_comm (a := t)]

theorem judgeErr_next_iff {st : Status} {s t : State} :
    judgeErr st s = .next t ↔ resp2Due s = true ∧ t = raise st s := by
  unfold judgeErr
  split <;> rename_i hd <;> simp [hd, eq_comm (a := t)]

theorem judgeProbe_next_iff {b : Byte} {s t : State} :
    judgeProbe b s = .next t ↔
      resp1Due s = true ∧ t = raiseWithValue (if probeOk b then .ok else .testFailed) b s := by
  unfold judgeProbe
  split <;> rename_i hd <;> simp [hd, eq_comm (a := t)]

/-- The meaning of a RESP2 response is what `decode_response` says of its two bytes (R114, R178). -/
theorem exec_decodeResp2 (c : Config) (code v : Byte) (s : State) :
    exec (decodeResp2 c code v) s =
      match decodeResponse c code v with
      | .ok w => judgeOk w s
      | .err st => judgeErr st s := by
  unfold decodeResp2 decodeResponse
  split_ifs <;> rfl

/-- The RESP1 branch of the judgement, whichever byte was read (R116, R178). -/
theorem judge_probe {s : State} (h : isReadOp s.curOp = false) : judge s = judgeProbe s.rb.b0 s := by
  unfold judge decodeResp1
  by_cases hb : probeOk s.rb.b0 = true
  · have hb' : s.rb.b0 = Config.probeOkMark := by simpa [probeOk] using hb
    simp [h, exec, execRespProbeOk, hb', probeOk]
  · simp [h, hb]

theorem judge_read {s : State} (h : isReadOp s.curOp = true) :
    judge s = exec (decodeResp2 s.cfg.toConfig s.rb.b0 s.rb.b1) s := by
  simp [judge, h]

theorem rxAns_next_iff {bs : List Byte} {s t : State} :
    rxAns bs s = .next t ↔
      s.phase = .rx ∧ s.rxCnt.toNat + bs.length ≤ s.rxLen.toNat ∧ readProgress bs s = .next t := by
  unfold rxAns
  cases hp : s.phase <;> simp
  split <;> rename_i hk <;> simp [hk]

theorem readProgress_cases (bs : List Byte) (s : State) :
    (s.rxCnt.toNat + bs.length = s.rxLen.toNat ∧ readProgress bs s = judge (disarm (deliverBytes bs s))) ∨
    (s.rxCnt.toNat + bs.length ≠ s.rxLen.toNat ∧ retriesAfter s bs.length = 10 ∧
      readProgress bs s = .next (raise .incomplete (disarm (deliverBytes bs s)))) ∨
    (s.rxCnt.toNat + bs.length ≠ s.rxLen.toNat ∧ retriesAfter s bs.length ≠ 10 ∧
      readProgress bs s = .next (deliverBytes bs s)) := by
  unfold readProgress
  split
  · exact .inl ⟨‹_›, rfl⟩
  · split
    · exact .inr (.inl ⟨‹_›, ‹_›, rfl⟩)
    · exact .inr (.inr ⟨‹_›, ‹_›, rfl⟩)

/-- The two forms of a judgement that ends a read (R178): VALUE written, or a DEV_ failure. -/
inductive JudgedRead (s : State) : State → Prop where
  | ok (h : s.rb.b0 = Config.successMark) : JudgedRead s (raiseWithValue .ok s.rb.b1 s)
  | err (st : Status) (h : decodeResponse s.cfg.toConfig s.rb.b0 s.rb.b1 = .err st) (h' : s.rb.b0 ≠ Config.successMark)
      (hk : statusKind st = .protocol) : JudgedRead s (raise st s)

theorem decodeResponse_ok_iff {c : Config} {r0 r1 v : Byte} :
    decodeResponse c r0 r1 = .ok v ↔ r0 = Config.successMark ∧ v = r1 := by
  unfold decodeResponse
  by_cases h : r0 = Config.successMark
  · simp [h, eq_comm]
  · simp only [h, if_false, false_and, iff_false]
    split_ifs <;> simp

theorem decodeResponse_err {c : Config} {r0 r1 : Byte} {st : Status} (h : decodeResponse c r0 r1 = .err st) :
    r0 ≠ Config.successMark ∧ statusKind st = .protocol := by
  unfold decodeResponse at h
  split_ifs at h <;> simp_all <;> subst h <;> rfl

theorem judge_next {s t : State} (h : judge s = .next t) :
    (isReadOp s.curOp = true ∧ JudgedRead s t) ∨
      (isReadOp s.curOp = false ∧
        t = raiseWithValue (if probeOk s.rb.b0 then .ok else .testFailed) s.rb.b0 s) := by
  cases hr : isReadOp s.curOp with
  | false =>
    rw [judge_probe hr, judgeProbe_next_iff] at h
    exact .inr ⟨rfl, h.2⟩
  | true =>
    rw [judge_read hr, exec_decodeResp2] at h
    refine .inl ⟨rfl, ?_⟩
    cases hd : decodeResponse s.cfg.toConfig s.rb.b0 s.rb.b1 with
    | ok v =>
      rw [hd] at h
      obtain ⟨hm, rfl⟩ := decodeResponse_ok_iff.1 hd
      rw [(judgeOk_next_iff.1 h).2]
      exact .ok hm
    | err st =>
      rw [hd] at h
      rw [(judgeErr_next_iff.1 h).2]
      exact .err st hd (decodeResponse_err hd).1 (decodeResponse_err hd).2

/-! ## The step -/

theorem step_next_iff {s t : State} :
    step s = .next t ↔ ∃ e rest, s.events = e :: rest ∧ applyEvent e { s with events := rest } = .next t := by
  unfold step takeEvent
  cases he : s.events with
  | nil => simp
  | cons e rest =>
    constructor
    · intro h
      exact ⟨e, rest, rfl, h⟩
    · rintro ⟨e', rest', h, h'⟩
      cases h
      exact h'

theorem step_cons (e : Event) (rest : List Event) (s : State) :
    step { s with events := e :: rest } = applyEvent e { s with events := rest } := rfl

end Sys2Proof.Machine
end

