-- ==== Sys2Proof/Laws/PerInstr.lean ====
section
/-! SUPPORT. Facts about every instruction as syntax, one lemma per constructor. -/

namespace Sys2Proof.Laws

/-- R89: the length of what travels is fixed by the operation: 4 for a request, 2 for the response of a read, 1 for the
response of PROBE. -/
def EncodedLength.Statement (i : Instr) : Prop :=
  ∀ c : Config, (encode c i).length =
    match opOf i with
    | some _ => Config.frameLen
    | none => if i = .respProbeOk then Config.probeRespLen else Config.respLen

/-- R90: the START built for a request names exactly that request, and a response has no START of its own. -/
def StartNamesRequest.Statement (i : Instr) : Prop :=
  match opOf i with
  | some op => Machine.startFor i = .start (selectorOf op) (locOf i) (dataOf i) ∧
      decodeStart (selectorOf op) (locOf i) (dataOf i) = some i
  | none => Machine.startFor i = .start 7 0 0 ∧ decodeStart 7 0 0 = none

theorem EncodedLength.readReg (loc : Byte) : EncodedLength.Statement (.readReg loc) := fun _ => rfl
theorem EncodedLength.readEeprom (loc : Byte) : EncodedLength.Statement (.readEeprom loc) := fun _ => rfl
theorem EncodedLength.writeReg (loc byte : Byte) : EncodedLength.Statement (.writeReg loc byte) := fun _ => rfl
theorem EncodedLength.writeEeprom (loc byte : Byte) : EncodedLength.Statement (.writeEeprom loc byte) := fun _ => rfl
theorem EncodedLength.shortPush : EncodedLength.Statement (.shortPush) := fun _ => rfl
theorem EncodedLength.longPush : EncodedLength.Statement (.longPush) := fun _ => rfl
theorem EncodedLength.probe : EncodedLength.Statement (.probe) := fun _ => rfl
theorem EncodedLength.respSuccess (v : Byte) : EncodedLength.Statement (.respSuccess v) := fun _ => rfl
theorem EncodedLength.respDevTimeout (x : Byte) : EncodedLength.Statement (.respDevTimeout x) := fun _ => rfl
theorem EncodedLength.respDevChecksum (x : Byte) : EncodedLength.Statement (.respDevChecksum x) := fun _ => rfl
theorem EncodedLength.respDevUnrecognized (x : Byte) : EncodedLength.Statement (.respDevUnrecognized x) := fun _ => rfl
theorem EncodedLength.respDevNoReply (x : Byte) : EncodedLength.Statement (.respDevNoReply x) := fun _ => rfl
theorem EncodedLength.respDevReplyError (x : Byte) : EncodedLength.Statement (.respDevReplyError x) := fun _ => rfl
theorem EncodedLength.respDevOther (code x : Byte) : EncodedLength.Statement (.respDevOther code x) := fun _ => rfl
theorem EncodedLength.respProbeOk : EncodedLength.Statement (.respProbeOk) := fun _ => rfl

theorem StartNamesRequest.readReg (loc : Byte) : StartNamesRequest.Statement (.readReg loc) := ⟨rfl, rfl⟩
theorem StartNamesRequest.readEeprom (loc : Byte) : StartNamesRequest.Statement (.readEeprom loc) := ⟨rfl, rfl⟩
theorem StartNamesRequest.writeReg (loc byte : Byte) : StartNamesRequest.Statement (.writeReg loc byte) := ⟨rfl, rfl⟩
theorem StartNamesRequest.writeEeprom (loc byte : Byte) : StartNamesRequest.Statement (.writeEeprom loc byte) := ⟨rfl, rfl⟩
theorem StartNamesRequest.shortPush : StartNamesRequest.Statement (.shortPush) := ⟨rfl, rfl⟩
theorem StartNamesRequest.longPush : StartNamesRequest.Statement (.longPush) := ⟨rfl, rfl⟩
theorem StartNamesRequest.probe : StartNamesRequest.Statement (.probe) := ⟨rfl, rfl⟩
theorem StartNamesRequest.respSuccess (v : Byte) : StartNamesRequest.Statement (.respSuccess v) := ⟨rfl, rfl⟩
theorem StartNamesRequest.respDevTimeout (x : Byte) : StartNamesRequest.Statement (.respDevTimeout x) := ⟨rfl, rfl⟩
theorem StartNamesRequest.respDevChecksum (x : Byte) : StartNamesRequest.Statement (.respDevChecksum x) := ⟨rfl, rfl⟩
theorem StartNamesRequest.respDevUnrecognized (x : Byte) : StartNamesRequest.Statement (.respDevUnrecognized x) := ⟨rfl, rfl⟩
theorem StartNamesRequest.respDevNoReply (x : Byte) : StartNamesRequest.Statement (.respDevNoReply x) := ⟨rfl, rfl⟩
theorem StartNamesRequest.respDevReplyError (x : Byte) : StartNamesRequest.Statement (.respDevReplyError x) := ⟨rfl, rfl⟩
theorem StartNamesRequest.respDevOther (code x : Byte) : StartNamesRequest.Statement (.respDevOther code x) := ⟨rfl, rfl⟩
theorem StartNamesRequest.respProbeOk : StartNamesRequest.Statement (.respProbeOk) := ⟨rfl, rfl⟩

end Sys2Proof.Laws
end

