-- ==== Sys2Proof/Laws/Step.lean ====
section
/-! SUPPORT. The step of one event does not look at the inputs still to come, so a run over a list of events is a chain of
single events: the lemmas that every statement about a run rests on. -/

namespace Sys2Proof.Machine

/-- The same state with other inputs still to come. -/
def State.withInputs (s : State) (evs : List Event) : State := { s with events := evs }

/-- The same outcome with other inputs still to come. -/
def mapInputs (evs : List Event) : Result → Result
  | .next t => .next (t.withInputs evs)
  | .fault r => .fault r
  | .refused r => .refused r

theorem mapInputs_ite (evs : List Event) (c : Prop) [Decidable c] (a b : Result) :
    mapInputs evs (if c then a else b) = if c then mapInputs evs a else mapInputs evs b := by split <;> rfl

theorem withInputs_ite (evs : List Event) (c : Prop) [Decidable c] (a b : State) :
    (if c then a else b).withInputs evs = if c then a.withInputs evs else b.withInputs evs := by split <;> rfl

theorem startOp_withInputs (op : Op) (loc data : Byte) (s : State) (evs : List Event) :
    startOp op loc data (s.withInputs evs) = mapInputs evs (startOp op loc data s) := by
  unfold startOp
  rw [show (s.withInputs evs).phase = s.phase from rfl]
  cases s.phase <;> rfl

theorem judgeOk_withInputs (v : Byte) (s : State) (evs : List Event) :
    judgeOk v (s.withInputs evs) = mapInputs evs (judgeOk v s) := by
  unfold judgeOk
  rw [mapInputs_ite, show resp2Due (s.withInputs evs) = resp2Due s from rfl]
  rfl

theorem judgeErr_withInputs (st : Status) (s : State) (evs : List Event) :
    judgeErr st (s.withInputs evs) = mapInputs evs (judgeErr st s) := by
  unfold judgeErr
  rw [mapInputs_ite, show resp2Due (s.withInputs evs) = resp2Due s from rfl]
  rfl

theorem judgeProbe_withInputs (b : Byte) (s : State) (evs : List Event) :
    judgeProbe b (s.withInputs evs) = mapInputs evs (judgeProbe b s) := by
  unfold judgeProbe
  rw [mapInputs_ite, show resp1Due (s.withInputs evs) = resp1Due s from rfl]
  rfl

theorem exec_withInputs (i : Instr) (s : State) (evs : List Event) :
    exec i (s.withInputs evs) = mapInputs evs (exec i s) := by
  cases i <;> first
    | exact startOp_withInputs ..
    | exact judgeOk_withInputs ..
    | exact judgeErr_withInputs ..
    | exact judgeProbe_withInputs ..

theorem judge_withInputs (s : State) (evs : List Event) : judge (s.withInputs evs) = mapInputs evs (judge s) := by
  cases hr : isReadOp s.curOp with
  | true =>
    rw [judge_read hr, judge_read (s := s.withInputs evs) hr]
    exact exec_withInputs _ s evs
  | false =>
    rw [judge_probe hr, judge_probe (s := s.withInputs evs) hr]
    exact judgeProbe_withInputs _ s evs

theorem writeProgress_withInputs (k : Nat) (s : State) (evs : List Event) :
    writeProgress k (s.withInputs evs) = (writeProgress k s).withInputs evs := by
  unfold writeProgress
  rw [withInputs_ite, withInputs_ite]
  rfl

theorem guardTick_withInputs (s : State) (evs : List Event) :
    guardTick (s.withInputs evs) = (guardTick s).withInputs evs := by
  unfold guardTick
  rw [withInputs_ite]
  rfl

theorem settleTick_withInputs (s : State) (evs : List Event) :
    settleTick (s.withInputs evs) = (settleTick s).withInputs evs := by
  unfold settleTick
  rw [withInputs_ite, withInputs_ite]
  rfl

theorem readProgress_withInputs (bs : List Byte) (s : State) (evs : List Event) :
    readProgress bs (s.withInputs evs) = mapInputs evs (readProgress bs s) := by
  unfold readProgress
  rw [mapInputs_ite, mapInputs_ite, ← judge_withInputs]
  rfl

/-- The step of an event does not depend on the inputs after it. -/
theorem applyEvent_withInputs (e : Event) (s : State) (evs : List Event) :
    applyEvent e (s.withInputs evs) = mapInputs evs (applyEvent e s) := by
  have hp : (s.withInputs evs).phase = s.phase := rfl
  cases e with
  | start sel loc data =>
    show startEvent sel loc data _ = mapInputs evs (startEvent sel loc data s)
    unfold startEvent
    cases decodeStart sel loc data with
    | none => rfl
    | some i => exact exec_withInputs i s evs
  | cfgWait v =>
    show cfgWait v _ = mapInputs evs (cfgWait v s)
    unfold cfgWait
    rw [hp]
    cases s.phase <;> try rfl
    dsimp only
    rw [mapInputs_ite]
    rfl
  | txAns k =>
    show txAns k _ = mapInputs evs (txAns k s)
    unfold txAns
    rw [hp, writeProgress_withInputs]
    cases s.phase <;> try rfl
    dsimp only
    rw [mapInputs_ite]
    rfl
  | txErr =>
    show txErr _ = mapInputs evs (txErr s)
    unfold txErr
    rw [hp]
    cases s.phase <;> rfl
  | rxAns bs =>
    show rxAns bs _ = mapInputs evs (rxAns bs s)
    unfold rxAns
    rw [hp, readProgress_withInputs]
    cases s.phase <;> try rfl
    dsimp only
    rw [mapInputs_ite]
    rfl
  | rxErr =>
    show rxErr _ = mapInputs evs (rxErr s)
    unfold rxErr
    rw [hp]
    cases s.phase <;> rfl
  | tick =>
    show tick _ = mapInputs evs (tick s)
    unfold tick
    rw [hp, guardTick_withInputs, settleTick_withInputs]
    cases s.phase <;> rfl
  | reset => rfl

/-- A run over an input and more inputs is the step of that input, and then the run over the rest. -/
theorem steps_feed_cons {e : Event} {s t : State} (h : applyEvent e s = .next t) (es : List Event) (n : Nat) :
    steps (n + 1) (feed (e :: es) s) = steps n (t.withInputs (es ++ s.events)) := by
  have h' : step (feed (e :: es) s) = .next (t.withInputs (es ++ s.events)) := by
    show applyEvent e (s.withInputs (es ++ s.events)) = _
    rw [applyEvent_withInputs, h]
    rfl
  rw [steps, h']

/-- Everything the step of one event can do: the forms of the next state, each with the conditions it is taken under. -/
inductive Applied (s : State) : Event → State → Prop where
  | start {sel : BitVec 3} {loc data : Byte} {op : Op} (hp : s.phase = .idle) (ho : opOfSelector sel = some op) :
      Applied s (.start sel loc data) (writeAllEntry (forgetValue (clearStatus (latchRequest op loc data s))))
  | cfgWait {v : Word32} (hp : s.phase = .idle) (hv : v ≠ 0) : Applied s (.cfgWait v) { s with wait := v }
  | txDone {k : Nat} (hp : s.phase = .tx) (hk : s.txOff.toNat + k = 4) :
      Applied s (.txAns k) (settleEntry (acceptBytes k s))
  | txIncomplete {k : Nat} (hp : s.phase = .tx) (hk : s.txOff.toNat + k < 4) (hr : retriesAfter s k = 10) :
      Applied s (.txAns k) (raise .incomplete (disarm (acceptBytes k s)))
  | txPart {k : Nat} (hp : s.phase = .tx) (hk : s.txOff.toNat + k < 4) (hr : retriesAfter s k ≠ 10) :
      Applied s (.txAns k) (acceptBytes k s)
  | txErr (hp : s.phase = .tx) : Applied s .txErr (raise .ioError (disarm s))
  | rxOk {bs : List Byte} (hp : s.phase = .rx) (hk : s.rxCnt.toNat + bs.length = s.rxLen.toNat)
      (hr : isReadOp s.curOp = true) (hb : (deliverBytes bs s).rb.b0 = Config.successMark) :
      Applied s (.rxAns bs) (raiseWithValue .ok (deliverBytes bs s).rb.b1 (disarm (deliverBytes bs s)))
  | rxDev {bs : List Byte} (hp : s.phase = .rx) (hk : s.rxCnt.toNat + bs.length = s.rxLen.toNat)
      (hr : isReadOp s.curOp = true) (st : Status) (hk' : statusKind st = .protocol)
      (hb : (deliverBytes bs s).rb.b0 ≠ Config.successMark)
      (hd : decodeResponse s.cfg.toConfig (deliverBytes bs s).rb.b0 (deliverBytes bs s).rb.b1 = .err st) :
      Applied s (.rxAns bs) (raise st (disarm (deliverBytes bs s)))
  | rxProbe {bs : List Byte} (hp : s.phase = .rx) (hk : s.rxCnt.toNat + bs.length = s.rxLen.toNat)
      (hr : isReadOp s.curOp = false) :
      Applied s (.rxAns bs)
        (raiseWithValue (if probeOk (deliverBytes bs s).rb.b0 then .ok else .testFailed) (deliverBytes bs s).rb.b0
          (disarm (deliverBytes bs s)))
  | rxIncomplete {bs : List Byte} (hp : s.phase = .rx) (hk : s.rxCnt.toNat + bs.length < s.rxLen.toNat)
      (hr : retriesAfter s bs.length = 10) :
      Applied s (.rxAns bs) (raise .incomplete (disarm (deliverBytes bs s)))
  | rxPart {bs : List Byte} (hp : s.phase = .rx) (hk : s.rxCnt.toNat + bs.length < s.rxLen.toNat)
      (hr : retriesAfter s bs.length ≠ 10) : Applied s (.rxAns bs) (deliverBytes bs s)
  | rxErr (hp : s.phase = .rx) : Applied s .rxErr (raise .ioError (disarm s))
  | tickIdle (hp : s.phase = .idle) : Applied s .tick s
  | tickTimeout (hp : s.phase = .tx ∨ s.phase = .rx) (hg : s.gCnt.toNat + 1 = s.wait.toNat) :
      Applied s .tick (raise .timeout (disarm s))
  | tickGuard (hp : s.phase = .tx ∨ s.phase = .rx) (hg : s.gCnt.toNat + 1 ≠ s.wait.toNat) :
      Applied s .tick { s with gCnt := BitVec.ofNat 32 (s.gCnt.toNat + 1) }
  | tickOk (hp : s.phase = .settle) (hc : s.sCnt.toNat + 1 = 200) (hl : s.rxLen = 0) : Applied s .tick (raise .ok s)
  | tickRead (hp : s.phase = .settle) (hc : s.sCnt.toNat + 1 = 200) (hl : s.rxLen ≠ 0) :
      Applied s .tick (readExactEntry s)
  | tickSettle (hp : s.phase = .settle) (hc : s.sCnt.toNat + 1 ≠ 200) :
      Applied s .tick { s with sCnt := BitVec.ofNat 8 (s.sCnt.toNat + 1) }
  | reset : Applied s .reset (resetBlock s)

/-- The step of an event takes one of these forms, and nothing else. -/
theorem applyEvent_applied {e : Event} {s t : State} (h : applyEvent e s = .next t) : Applied s e t := by
  cases e with
  | start sel loc data =>
    obtain ⟨hp, op, ho, rfl⟩ := startEvent_next_iff.1 h
    exact .start hp ho
  | cfgWait v =>
    obtain ⟨hp, hv, rfl⟩ := cfgWait_next_iff.1 h
    exact .cfgWait hp hv
  | txAns k =>
    obtain ⟨hp, hk, rfl⟩ := txAns_next_iff.1 h
    have hk' : s.txOff.toNat + k ≤ 4 := hk
    rcases writeProgress_cases k s with ⟨h1, h2⟩ | ⟨h1, h2, h3⟩ | ⟨h1, h2, h3⟩
    · rw [h2]; exact .txDone hp h1
    · rw [h3]; exact .txIncomplete hp (by omega) h2
    · rw [h3]; exact .txPart hp (by omega) h2
  | txErr =>
    obtain ⟨hp, rfl⟩ := txErr_next_iff.1 h
    exact .txErr hp
  | rxAns bs =>
    obtain ⟨hp, hk, h⟩ := rxAns_next_iff.1 h
    rcases readProgress_cases bs s with ⟨h1, h2⟩ | ⟨h1, h2, h3⟩ | ⟨h1, h2, h3⟩
    · rw [h2] at h
      rcases judge_next h with ⟨hr, hj⟩ | ⟨hr, rfl⟩
      · cases hj with
        | ok hb => exact .rxOk hp h1 hr hb
        | err st hd hb hs => exact .rxDev hp h1 hr st hs hb hd
      · exact .rxProbe hp h1 hr
    · rw [h3] at h
      cases h
      exact .rxIncomplete hp (by omega) h2
    · rw [h3] at h
      cases h
      exact .rxPart hp (by omega) h2
  | rxErr =>
    obtain ⟨hp, rfl⟩ := rxErr_next_iff.1 h
    exact .rxErr hp
  | tick =>
    rcases tick_next_iff.1 h with ⟨hp, rfl⟩ | ⟨hp, rfl⟩ | ⟨hp, rfl⟩
    · exact .tickIdle hp
    · rcases guardTick_cases s with ⟨h1, h2⟩ | ⟨h1, h2⟩
      · rw [h2]; exact .tickTimeout hp h1
      · rw [h2]; exact .tickGuard hp h1
    · rcases settleTick_cases s with ⟨h1, h2, h3⟩ | ⟨h1, h2, h3⟩ | ⟨h1, h2⟩
      · rw [h3]; exact .tickOk hp h1 h2
      · rw [h3]; exact .tickRead hp h1 h2
      · rw [h2]; exact .tickSettle hp h1
  | reset =>
    cases h
    exact .reset

/-- A step takes the head of the inputs and performs it. -/
theorem step_applied {s t : State} (h : step s = .next t) :
    ∃ e rest, s.events = e :: rest ∧ Applied (s.withInputs rest) e t := by
  obtain ⟨e, rest, he, h⟩ := step_next_iff.1 h
  exact ⟨e, rest, he, applyEvent_applied h⟩

theorem applied_events {s t : State} {e : Event} (h : Applied s e t) : t.events = s.events := by cases h <;> rfl

/-- The events of a list performed one after the other, the inputs of the state left alone. -/
def runEvents : List Event → State → Option State
  | [], s => some s
  | e :: es, s =>
    match applyEvent e s with
    | .next t => runEvents es t
    | .fault _ | .refused _ => none

theorem runEvents_cons {e : Event} {s t : State} (h : applyEvent e s = .next t) (es : List Event) :
    runEvents (e :: es) s = runEvents es t := by
  rw [runEvents, h]

theorem runEvents_append (es es' : List Event) (s : State) :
    runEvents (es ++ es') s = (runEvents es s).bind (runEvents es') := by
  induction es generalizing s with
  | nil => rfl
  | cons e es ih =>
    rw [List.cons_append, runEvents, runEvents]
    cases applyEvent e s with
    | next t => exact ih t
    | fault r => rfl
    | refused r => rfl

theorem runEvents_events {es : List Event} {s t : State} (h : runEvents es s = some t) : t.events = s.events := by
  induction es generalizing s with
  | nil => cases h; rfl
  | cons e es ih =>
    rw [runEvents] at h
    cases ha : applyEvent e s with
    | next s' =>
      rw [ha] at h
      rw [ih h, applied_events (applyEvent_applied ha)]
    | fault r => rw [ha] at h; cases h
    | refused r => rw [ha] at h; cases h

/-- A run over inputs that can be performed, and then over more inputs: the performed ones are gone. -/
theorem steps_feed_append {es : List Event} {s t : State} (h : runEvents es s = some t) (es' : List Event) (n : Nat) :
    steps (es.length + n) (feed (es ++ es') s) = steps n (feed es' t) := by
  induction es generalizing s with
  | nil =>
    cases h
    rw [List.length_nil, Nat.zero_add, List.nil_append]
  | cons e es ih =>
    rw [runEvents] at h
    cases ha : applyEvent e s with
    | next s' =>
      rw [ha] at h
      have hev : s'.withInputs (es ++ es' ++ s.events) = feed (es ++ es') s' := by
        rw [← applied_events (applyEvent_applied ha)]
        rfl
      rw [List.length_cons, Nat.add_right_comm, List.cons_append, steps_feed_cons ha, hev]
      exact ih h
    | fault r => rw [ha] at h; cases h
    | refused r => rw [ha] at h; cases h

/-- A run over inputs that can be performed ends in the state they lead to. -/
theorem steps_feed {es : List Event} {s t : State} (h : runEvents es s = some t) :
    steps es.length (feed es s) = .next t := by
  have := steps_feed_append h [] 0
  rw [List.append_nil] at this
  exact this

end Sys2Proof.Machine
end

