-- ==== Sys2Proof/Tests/Slice0.lean ====
section
/-! SUPPORT. Tests with results from outside the model (the encodings of 30_encoding.md written out bit by bit, the vectors
of 95_test_vectors.md), and a witness for the hypotheses of every statement. -/

namespace Sys2Proof.Tests

open Sys2Proof.Machine

/-! ## The fixture: configuration T and small states -/

/-- The test configuration T of 95_test_vectors.md section 1.2. -/
def cfgT : Config where
  probeCmd := 0xA5
  probeLoc := 0x00
  probeData := 0x00
  codeChecksum := 0xE1
  codeUnrecognized := 0xE2
  codeNoReply := 0xE3
  codeReplyError := 0xE4

/-- T is a configuration a machine can have. -/
def machineT : AdmissibleConfig := ⟨cfgT, by decide⟩

/-- The host-level constants under T. -/
def hostT : HostConfig where
  configStart := 0x10
  configEnd := 0x3C
  regCint := 0xA0
  regCext := 0xA1
  regLint := 0xA2
  regLext := 0xA3
  extfChargeBit := 4
  extfLoadBit := 5
  divCharge := 5
  divLoad := 10
  range := by decide
  divCharge_ne_zero := by norm_num
  divLoad_ne_zero := by norm_num

/-- S0 under T. -/
def s0 : State := { State.reset with cfg := machineT }

/-- WRITE_REG 66, 27 in PHASE TX. -/
def inTx (off : BitVec 3) (ret : BitVec 4) (cnt wait : Word32) : State :=
  { s0 with
    phase := .tx, curOp := .writeReg, fr := ⟨0x98, 0x66, 0x27, 0x67⟩, txOff := off, retries := ret, gArmed := true
    gCnt := cnt, wait := wait }

/-- An operation in PHASE SETTLE. -/
def inSettle (op : Op) (cnt : BitVec 8) : State :=
  { s0 with
    phase := .settle, curOp := op, fr := frameOf cfgT op 0x30 0, txOff := 4, rxLen := rxLenOf op, sCnt := cnt }

/-- A read or PROBE in PHASE RX. -/
def inRx (op : Op) (rx : BitVec 2) (ret : BitVec 4) (cnt wait : Word32) : State :=
  { s0 with
    phase := .rx, curOp := op, fr := frameOf cfgT op 0x30 0, txOff := 4, rxLen := rxLenOf op, rxCnt := rx, retries := ret
    gArmed := true, gCnt := cnt, wait := wait }

/-- A response that is due for judgement. -/
def due (op : Op) : State := { inRx op (rxLenOf op) 0 0 10000 with gArmed := false }

/-- One field of the state after a step that goes on. -/
def after {α : Type} (f : State → α) : Result → Option α
  | .next t => some (f t)
  | .fault _ | .refused _ => none

/-- The reason of a step that is refused. -/
def refusal : Result → Option Refusal
  | .next _ | .fault _ => none
  | .refused r => some r

/-! ## The configuration: what D11 rules out is refused (U11) -/

theorem test_accept_T : (cfgT.accept.map AdmissibleConfig.toConfig) = some cfgT := by decide
theorem test_accept_refuses_equal_codes : ({ cfgT with codeNoReply := 0xE1 } : Config).accept = none := by decide
theorem test_accept_refuses_success_mark : ({ cfgT with codeReplyError := 0xC8 } : Config).accept = none := by decide
theorem test_accept_refuses_code_timeout : ({ cfgT with codeChecksum := 0x81 } : Config).accept = none := by decide

/-! ## WellFormed: one ill-formed term for each first byte that has a row of its own -/

theorem test_wf_refuses_success_mark : (Instr.respDevOther 0xC8 0x00).wf cfgT = false := by decide
theorem test_wf_refuses_code_timeout : (Instr.respDevOther 0x81 0x00).wf cfgT = false := by decide
theorem test_wf_refuses_code_checksum : (Instr.respDevOther 0xE1 0x00).wf cfgT = false := by decide
theorem test_wf_refuses_code_unrecognized : (Instr.respDevOther 0xE2 0x00).wf cfgT = false := by decide
theorem test_wf_refuses_code_no_reply : (Instr.respDevOther 0xE3 0x00).wf cfgT = false := by decide
theorem test_wf_refuses_code_reply_error : (Instr.respDevOther 0xE4 0x00).wf cfgT = false := by decide
theorem test_wf_admits_other : (Instr.respDevOther 0x80 0x00).wf cfgT = true := by decide

/-! ## Decoding: every row from its encoding written out bit by bit (30_encoding.md R84 to R86) -/

theorem test_decode_readReg :
    decodeBytes cfgT [0b00010100, 0b00110000, 0b00000000, 0b11101011] = .ok (.readReg 0x30) := by rfl
theorem test_decode_readEeprom :
    decodeBytes cfgT [0b01001000, 0b00001110, 0b00000000, 0b10110111] = .ok (.readEeprom 0x0E) := by rfl
theorem test_decode_writeReg :
    decodeBytes cfgT [0b10011000, 0b01100110, 0b00100111, 0b01100111] = .ok (.writeReg 0x66 0x27) := by rfl
theorem test_decode_writeEeprom :
    decodeBytes cfgT [0b11001010, 0b00001110, 0b01111111, 0b00110101] = .ok (.writeEeprom 0x0E 0x7F) := by rfl
theorem test_decode_shortPush :
    decodeBytes cfgT [0b01010111, 0b00000000, 0b00000001, 0b10101000] = .ok .shortPush := by rfl
theorem test_decode_longPush :
    decodeBytes cfgT [0b01010111, 0b00000000, 0b00000010, 0b10101000] = .ok .longPush := by rfl
theorem test_decode_probe :
    decodeBytes cfgT [0b10100101, 0b00000000, 0b00000000, 0b01011010] = .ok .probe := by rfl
theorem test_decode_respSuccess : decodeBytes cfgT [0b11001000, 0b01011111] = .ok (.respSuccess 0x5F) := by rfl
theorem test_decode_respDevTimeout : decodeBytes cfgT [0b10000001, 0b11001000] = .ok (.respDevTimeout 0xC8) := by rfl
theorem test_decode_respDevChecksum : decodeBytes cfgT [0b11100001, 0b00000000] = .ok (.respDevChecksum 0x00) := by rfl
theorem test_decode_respDevUnrecognized :
    decodeBytes cfgT [0b11100010, 0b00000000] = .ok (.respDevUnrecognized 0x00) := by rfl
theorem test_decode_respDevNoReply : decodeBytes cfgT [0b11100011, 0b00000000] = .ok (.respDevNoReply 0x00) := by rfl
theorem test_decode_respDevReplyError :
    decodeBytes cfgT [0b11100100, 0b11111111] = .ok (.respDevReplyError 0xFF) := by rfl
theorem test_decode_respDevOther : decodeBytes cfgT [0b11001001, 0b00000101] = .ok (.respDevOther 0xC9 0x05) := by rfl
theorem test_decode_respProbeOk : decodeBytes cfgT [0b10000000] = .ok .respProbeOk := by rfl

/-- A byte the mask of a read row does not cover is not looked at (opcode_table.json). -/
theorem test_decode_ignores_fill : decodeBytes cfgT [0x14, 0x30, 0x80, 0xEB] = .ok (.readReg 0x30) := by rfl
theorem test_decode_rejects_checksum : decodeBytes cfgT [0x14, 0x30, 0x00, 0xEA] = .error .badChecksum := by rfl
theorem test_decode_rejects_push_data : decodeBytes cfgT [0x57, 0x00, 0x03, 0xA8] = .error (.badPushData 0x03) := by rfl
theorem test_decode_rejects_command : decodeBytes cfgT [0x15, 0x30, 0x00, 0xEA] = .error (.unknownCommand 0x15) := by rfl
theorem test_decode_rejects_length : decodeBytes cfgT [0x14, 0x30, 0x00] = .error (.badLength 3) := by rfl
theorem test_decode_rejects_probe_byte : decodeBytes cfgT [0x81] = .error (.notProbeOk 0x81) := by rfl

/-- The numbering of opcode_table.json: the first byte of a row is its most significant (R9). -/
theorem test_table_word_request : decodeTableWord 32 0x98662767 = some (.writeReg 0x66 0x27) := by rfl
theorem test_table_word_response : decodeTableWord 16 0xC85F = some (.respSuccess 0x5F) := by rfl

/-- A word placed as the next input runs in the very next step, as the first thing after reset. -/
theorem test_placed_words :
    after State.curOp (step (State.reset.withFetchWord 32 0x570001A8)) = some .shortPush ∧
      after State.status (step (State.reset.withFetchWord 16 0x8100)) = some .devTimeout ∧
      after State.status (step (State.reset.withFetchWord 8 0x80)) = some .ok := ⟨rfl, rfl, rfl⟩

/-! ## One step: the requests (95_test_vectors.md sections 3.1 and 3.5) -/

theorem test_readReg_frame : after State.fr (exec (.readReg 0x30) s0) = some ⟨0x14, 0x30, 0x00, 0xEB⟩ := by rfl
theorem test_readReg_length : after State.rxLen (exec (.readReg 0x30) s0) = some 2 := by rfl
theorem test_readEeprom_frame : after State.fr (exec (.readEeprom 0x0E) s0) = some ⟨0x48, 0x0E, 0x00, 0xB7⟩ := by rfl
theorem test_writeReg_frame : after State.fr (exec (.writeReg 0x66 0x27) s0) = some ⟨0x98, 0x66, 0x27, 0x67⟩ := by rfl
theorem test_writeReg_length : after State.rxLen (exec (.writeReg 0x66 0x27) s0) = some 0 := by rfl
theorem test_writeEeprom_frame :
    after State.fr (exec (.writeEeprom 0x0E 0x7F) s0) = some ⟨0xCA, 0x0E, 0x7F, 0x35⟩ := by rfl
theorem test_shortPush_frame : after State.fr (exec .shortPush s0) = some ⟨0x57, 0x00, 0x01, 0xA8⟩ := by rfl
theorem test_longPush_frame : after State.fr (exec .longPush s0) = some ⟨0x57, 0x00, 0x02, 0xA8⟩ := by rfl
theorem test_probe_frame : after State.fr (exec .probe s0) = some ⟨0xA5, 0x00, 0x00, 0x5A⟩ := by rfl
theorem test_probe_length : after State.rxLen (exec .probe s0) = some 1 := by rfl
theorem test_start_ignores_data :
    after State.fr (step (feed [.start 0 0x30 0x77] s0)) = some ⟨0x14, 0x30, 0x00, 0xEB⟩ := by rfl
theorem test_request_busy : refusal (exec .shortPush (inTx 0 0 0 10000)) = some .startWhileBusy := by rfl

/-! ## One step: the responses (X1, X11 to X17, Y1, Y4) -/

theorem test_respSuccess : after (fun t => (t.status, t.value)) (exec (.respSuccess 0x5F) (due .readReg)) =
    some (.ok, 0x5F) := by rfl
theorem test_respDevTimeout : after State.status (exec (.respDevTimeout 0x00) (due .readReg)) = some .devTimeout := by rfl
theorem test_respDevChecksum : after State.status (exec (.respDevChecksum 0x00) (due .readReg)) = some .devChecksum := by
  rfl
theorem test_respDevUnrecognized :
    after State.status (exec (.respDevUnrecognized 0x00) (due .readReg)) = some .devUnrecognized := by rfl
theorem test_respDevNoReply : after State.status (exec (.respDevNoReply 0x00) (due .readReg)) = some .devNoReply := by rfl
theorem test_respDevReplyError :
    after State.status (exec (.respDevReplyError 0x00) (due .readEeprom)) = some .devReplyError := by rfl
theorem test_respDevOther : after State.status (exec (.respDevOther 0x80 0x00) (due .readReg)) = some .devOther := by rfl
theorem test_respProbeOk : after (fun t => (t.status, t.value)) (exec .respProbeOk (due .probe)) = some (.ok, 0x80) := by
  rfl
theorem test_probe_fails : after (fun t => (t.status, t.value)) (step (feed [.rxAns [0xC8]] (inRx .probe 0 0 0 10000))) =
    some (.testFailed, 0xC8) := by rfl
theorem test_probe_byte_is_no_success :
    after State.status (step (feed [.rxAns [0x80, 0x00]] (inRx .readReg 0 0 0 10000))) = some .devOther := by rfl

/-! ## One step: the channel (W2, W5 to W7, W11, W13, W14, X5, X7, X9) -/

theorem test_tx_offset_accumulates :
    after (fun t => (t.phase, t.txOff, t.txStream)) (step (feed [.txAns 1] (inTx 3 0 0 10000))) =
      some (.settle, 4, [0x67]) := by rfl
theorem test_tx_nine_retries : after (fun t => (t.phase, t.retries)) (step (feed [.txAns 4] (inTx 0 9 0 10000))) =
    some (.settle, 9) := by rfl
theorem test_tx_tenth_retry : after (fun t => (t.phase, t.status, t.txOff)) (step (feed [.txAns 0] (inTx 3 9 0 10000))) =
    some (.idle, .incomplete, 3) := by rfl
theorem test_tx_error : after (fun t => (t.status, t.txOff)) (step (feed [.txErr] (inTx 2 0 0 10000))) =
    some (.ioError, 2) := by rfl
theorem test_tx_timeout : after (fun t => (t.status, t.gCnt)) (step (feed [.tick] (inTx 0 0 9999 10000))) =
    some (.timeout, 9999) := by rfl
theorem test_tx_not_yet : after (fun t => (t.status, t.gCnt)) (step (feed [.tick] (inTx 0 0 9998 10000))) =
    some (.none, 9999) := by rfl
theorem test_tx_too_long : refusal (step (feed [.txAns 2] (inTx 3 0 0 10000))) = some .writeAnswerTooLong := by rfl
theorem test_settle_ends_write : after (fun t => (t.phase, t.status, t.sCnt)) (step (feed [.tick] (inSettle .writeReg 199))) =
    some (.idle, .ok, 199) := by rfl
theorem test_settle_enters_read : after (fun t => (t.phase, t.gArmed, t.gCnt)) (step (feed [.tick] (inSettle .readReg 199))) =
    some (.rx, true, 0) := by rfl
theorem test_rx_second_byte : after (fun t => (t.status, t.rxCnt, t.rb.b1)) (step (feed [.rxAns [0x5F]] (inRx .readReg 1 0 0 10000))) =
    some (.devOther, 2, 0x5F) := by rfl
theorem test_rx_tenth_retry : after (fun t => (t.status, t.rxCnt)) (step (feed [.rxAns []] (inRx .readReg 1 9 0 10000))) =
    some (.incomplete, 1) := by rfl
theorem test_rx_error : after (fun t => (t.status, t.rxCnt)) (step (feed [.rxErr] (inRx .readReg 1 0 0 10000))) =
    some (.ioError, 1) := by rfl
theorem test_rx_timeout : after State.status (step (feed [.tick] (inRx .readReg 1 0 9999 10000))) = some .timeout := by rfl
theorem test_cfg_wait : after State.wait (step (feed [.cfgWait 2000] s0)) = some 2000 := by rfl
theorem test_reset_wait : after State.wait (step (feed [.reset] (inTx 1 1 0 500))) = some 10000 := by rfl

/-! ## The host's conversions (S3, S4, S5, section 3.6) -/

theorem test_gettime : timeOf 95 3 42 = ⟨9, 33, 42⟩ := by decide
theorem test_setdaytime : (dayCode ⟨31, 23, 59, 59⟩, hourCode ⟨31, 23, 59, 59⟩, minuteCode ⟨31, 23, 59, 59⟩) =
    (0x1E, 0xEF, 0x05) := by decide
theorem test_batcapacity : (capacityOf 50, capacityOf 51, capacityOf 255) = (1000, 100, 20500) := by decide
theorem test_batvoltage : batteryVoltage 255 255 = 6528 := by
  rw [batteryVoltage, show (0xFF : Byte).toNat = 255 from rfl]; norm_num
theorem test_solvoltage : solarVoltage 27 = 27 / 2 := by
  rw [solarVoltage, show (27 : Byte).toNat = 27 from rfl]; norm_num
theorem test_charge_scale : currentOf 5 4 25 30 0x20 = 8 ∧ currentOf 5 4 25 30 0x10 = 35 := by
  rw [currentOf, currentOf, show (25 : Byte).toNat = 25 from rfl, show (30 : Byte).toNat = 30 from rfl,
    show externalScale 0x20 4 = 10 from rfl, show externalScale 0x10 4 = 1 from rfl]
  norm_num
theorem test_state : (regulatorState 0x04, regulatorState 0xFE) = (.boost, .absorption) := by decide
theorem test_charge_and_load_divide_apart :
    (play (scriptCharge hostT) [(.ok, 25), (.ok, 30), (.ok, 0)]).2 = .done (.amperes (currentOf 5 4 25 30 0)) ∧
      (play (scriptLoad hostT) [(.ok, 25), (.ok, 30), (.ok, 0)]).2 = .done (.amperes (currentOf 10 5 25 30 0)) :=
  ⟨rfl, rfl⟩
theorem test_powercycle_sleep_may_fail :
    (play scriptPowercycle [(.ok, 0), (.ok, 0), (.ok, 0), (.ok, 0), (.ok, 0), (.ok, 0), (.ioError, 0), (.ok, 0)]).1.length =
      8 := by decide
theorem test_powercycle_host_may_stop :
    scriptExitClass (play scriptPowercycle (List.replicate 6 (.ok, 0))).2 = some .success ∧
      scriptExitClass (play scriptPowercycle (List.replicate 4 (.ok, 0))).2 = none := by decide

/-! ## Witnesses: for every statement with hypotheses, a state and operands that meet them, clause by clause -/

theorem witness_ChecksumCoversCommandOnly :
    frameCheck ⟨0x14, 0x30, 0x00, 0xEB⟩ = true ∧ (0x14 : Byte) = ~~~(0xEB : Byte) ∧ (0xEA : Byte) ≠ ~~~(0x14 : Byte) := by
  decide

theorem witness_FrameParseInvertsEncode :
    frameCheck ⟨0x14, 0x31, 0x00, 0xEB⟩ = true ∧ frameCheck ⟨0x00, 0x00, 0x00, 0x00⟩ = false ∧
      frameEncode 0x14 0x30 0x00 = frameEncode 0x14 0x30 0x00 := by decide

theorem witness_DecodeResponseProperties :
    (0x80 : Byte) ≠ 0xC8 ∧ (0x80 : Byte) ≠ 0x81 ∧ (0x80 : Byte) ≠ cfgT.codeChecksum ∧ (0x80 : Byte) ≠ cfgT.codeUnrecognized ∧
      (0x80 : Byte) ≠ cfgT.codeNoReply ∧ (0x80 : Byte) ≠ cfgT.codeReplyError := by decide

theorem witness_OpenCodesGiveTheirStatus : cfgT.Admissible := by decide

theorem witness_ProbeOkIsEquality : (0x80 : Byte) = 0x80 ∧ (0x7F : Byte) ≠ 0x80 := by decide

theorem witness_DecodeEncodeRoundTrip :
    cfgT.Admissible ∧ cfgT.ProbeClear ∧ Instr.probe.wf cfgT = true ∧ (Instr.respDevOther 0xFF 0x00).wf cfgT = true := by
  decide

theorem witness_RequestRowsByMask :
    cfgT.ProbeClear ∧ (0x14FF80EB : BitVec 32) &&& 0xFF0000FF = 0x140000EB ∧
      (0x57FF02A8 : BitVec 32) &&& 0xFF00FFFF = 0x570002A8 := by decide

theorem witness_ResponseRowsByMask :
    cfgT.Admissible ∧ (0xC8FF : BitVec 16) &&& 0xFF00 = 0xC800 ∧ (0x80 : Byte) ∉ cfgT.namedCodes := by decide

theorem witness_NoFirstByteIsIllegal :
    (due .readReg).phase = .rx ∧ (due .readReg).rxCnt = (due .readReg).rxLen ∧ isReadOp (due .readReg).curOp = true ∧
      (0xFF : Byte) ∉ (due .readReg).cfg.namedCodes := by decide

theorem witness_RequestsStart : s0.phase = .idle := by decide

theorem witness_RequestsFrame : (opOf (.writeReg 0xFF 0xFF)).isSome = true ∧ ∃ t, exec (.writeReg 0xFF 0xFF) s0 = .next t :=
  ⟨by decide, _, rfl⟩

theorem witness_StartWhileBusyHasNoStep :
    (inTx 0 0 0 10000).phase ≠ .idle ∧ (inSettle .readReg 0).phase ≠ .idle ∧ (opOf .probe).isSome = true := by decide

theorem witness_WriteAllEntryByStart : ∃ t, step (feed [.start 6 0xFF 0xFF] s0) = .next t := ⟨_, rfl⟩

theorem witness_CfgWaitStep :
    s0.phase = .idle ∧ (1 : Word32) ≠ 0 ∧ (0xFFFFFFFF : Word32) ≠ 0 ∧ (inTx 0 0 0 10000).phase ≠ .idle := by decide

theorem witness_WriteAnswerStep :
    (inTx 3 9 0 10000).phase = .tx ∧
      ((inTx 3 9 0 10000).txOff.toNat + 1 = 4) ∧
      ((inTx 3 9 0 10000).txOff.toNat + 0 ≠ 4 ∧ (inTx 3 9 0 10000).retries.toNat + 1 = 10) ∧
      ((inTx 3 8 0 10000).txOff.toNat + 0 ≠ 4 ∧ (inTx 3 8 0 10000).retries.toNat + 1 ≠ 10) := by decide

theorem witness_WriteErrorStep : (inTx 2 0 0 10000).phase = .tx ∧ (due .readReg).phase ≠ .tx := by decide

theorem witness_TimeoutInTx :
    (inTx 0 0 0 1).phase = .tx ∧ (inTx 0 0 0 1).gCnt.toNat + 1 = (inTx 0 0 0 1).wait.toNat ∧
      (inTx 0 0 9998 10000).gCnt.toNat + 1 ≠ (inTx 0 0 9998 10000).wait.toNat ∧ (inTx 0 0 0 10000).gCnt = 0 ∧
      9999 < (inTx 0 0 0 10000).wait.toNat ∧ 1 ≤ (inTx 0 0 0 1).wait.toNat := by decide

theorem witness_SettleDelay :
    (inSettle .writeReg 0).phase = .settle ∧ (inSettle .writeReg 0).sCnt = 0 ∧
      ((inSettle .writeReg 199).sCnt.toNat = 199 ∧ (inSettle .writeReg 199).rxLen = 0) ∧
      ((inSettle .probe 199).sCnt.toNat = 199 ∧ (inSettle .probe 199).rxLen ≠ 0) := by decide

theorem witness_ReadAnswerStep :
    (inRx .readReg 1 9 0 10000).phase = .rx ∧
      (inRx .readReg 1 9 0 10000).rxCnt.toNat + 1 = (inRx .readReg 1 9 0 10000).rxLen.toNat ∧
      (inRx .readReg 0 0 0 10000).rxCnt.toNat + 2 = (inRx .readReg 0 0 0 10000).rxLen.toNat ∧
      ((inRx .readReg 1 9 0 10000).rxCnt.toNat + 0 ≠ (inRx .readReg 1 9 0 10000).rxLen.toNat ∧
        (inRx .readReg 1 9 0 10000).retries.toNat + 1 = 10) ∧
      ((inRx .readReg 0 9 0 10000).rxCnt.toNat + 1 ≠ (inRx .readReg 0 9 0 10000).rxLen.toNat ∧
        (inRx .readReg 0 9 0 10000).retries.toNat + 0 ≠ 10) := by decide

theorem witness_ReadErrorStep : (inRx .readReg 1 0 0 10000).phase = .rx ∧ (inTx 0 0 0 10000).phase ≠ .rx := by decide

theorem witness_TimeoutInRx :
    (inRx .probe 0 0 0 1).phase = .rx ∧ (inRx .probe 0 0 0 1).gCnt.toNat + 1 = (inRx .probe 0 0 0 1).wait.toNat ∧
      (inRx .readReg 1 0 0 2).gCnt.toNat + 1 ≠ (inRx .readReg 1 0 0 2).wait.toNat ∧
      ((inSettle .readReg 199).phase = .settle ∧ (inSettle .readReg 199).sCnt.toNat + 1 = Config.settleTicks ∧
        (inSettle .readReg 199).rxLen ≠ 0 ∧ 9999 < (inSettle .readReg 199).wait.toNat) := by decide

theorem witness_TickInIdle : s0.phase = .idle := by decide

theorem witness_AnswersOutsideTheContract :
    s0.phase ≠ .tx ∧ ((inTx 3 0 0 10000).phase = .tx ∧ 4 < (inTx 3 0 0 10000).txOff.toNat + 2) ∧
      (inTx 3 0 0 10000).phase ≠ .rx ∧
      ((inRx .readReg 1 0 0 10000).phase = .rx ∧
        (inRx .readReg 1 0 0 10000).rxLen.toNat < (inRx .readReg 1 0 0 10000).rxCnt.toNat + 2) := by decide

theorem witness_AnswerAndLastTickInEitherOrder :
    ((inTx 3 0 9999 10000).phase = .tx ∧ (inTx 3 0 9999 10000).txOff.toNat + 1 = 4 ∧
      (inTx 3 0 9999 10000).gCnt.toNat + 1 = (inTx 3 0 9999 10000).wait.toNat) ∧
    ((inRx .readReg 1 0 9999 10000).phase = .rx ∧
      (inRx .readReg 1 0 9999 10000).rxCnt.toNat + [(0x5F : Byte)].length = (inRx .readReg 1 0 9999 10000).rxLen.toNat ∧
      (inRx .readReg 1 0 9999 10000).gCnt.toNat + 1 = (inRx .readReg 1 0 9999 10000).wait.toNat) := by decide

theorem witness_CompletionRule : Status.ok ≠ Status.none ∧ Status.timeout ≠ Status.none := by decide

theorem witness_JudgementOfAResponse :
    ((inRx .readReg 0 0 0 10000).phase = .rx ∧
      (inRx .readReg 0 0 0 10000).rxCnt.toNat + [(0xC8 : Byte), 0x5F].length = (inRx .readReg 0 0 0 10000).rxLen.toNat ∧
      isReadOp (inRx .readReg 0 0 0 10000).curOp = true ∧ decodeResponse cfgT 0xC8 0x5F = .ok 0x5F ∧
      decodeResponse cfgT 0xE4 0xFF = .err .devReplyError) ∧
    ((inRx .probe 0 0 0 10000).phase = .rx ∧
      (inRx .probe 0 0 0 10000).rxCnt.toNat + [(0x80 : Byte)].length = (inRx .probe 0 0 0 10000).rxLen.toNat ∧
      isReadOp (inRx .probe 0 0 0 10000).curOp = false ∧ probeOk 0x80 = true ∧ probeOk 0x7F = false) := by decide

theorem witness_ResponsesComplete :
    ((due .readEeprom).phase = .rx ∧ (due .readEeprom).rxCnt = (due .readEeprom).rxLen ∧
      isReadOp (due .readEeprom).curOp = true) ∧
    ((due .probe).phase = .rx ∧ (due .probe).rxCnt = (due .probe).rxLen ∧ isReadOp (due .probe).curOp = false) := by decide

theorem witness_ResponsesFrame : opOf (.respDevOther 0x80 0x00) = none ∧
    ∃ t, exec (.respDevOther 0x80 0x00) (due .readReg) = .next t := ⟨rfl, _, rfl⟩

theorem witness_ResponseNotDueIsRefused :
    opOf (.respSuccess 0x00) = none ∧ s0.phase ≠ .rx ∧ (inRx .readReg 1 0 0 10000).rxCnt ≠ (inRx .readReg 1 0 0 10000).rxLen ∧
      isReadOp (due .readReg).curOp = (Instr.respProbeOk == .respProbeOk) ∧
      isReadOp (due .probe).curOp = (Instr.respSuccess 0x00 == .respProbeOk) := by decide

theorem witness_StepRunsTheDecodedInstruction :
    decodeStart 6 0x00 0x00 = some .probe ∧
      ((inRx .readReg 1 0 0 10000).phase = .rx ∧
        (inRx .readReg 1 0 0 10000).rxCnt.toNat + [(0x5F : Byte)].length = (inRx .readReg 1 0 0 10000).rxLen.toNat ∧
        isReadOp (inRx .readReg 1 0 0 10000).curOp = true) ∧
      ((inRx .probe 0 0 0 10000).rxCnt.toNat + [(0x80 : Byte)].length = (inRx .probe 0 0 0 10000).rxLen.toNat ∧
        isReadOp (inRx .probe 0 0 0 10000).curOp = false) := by decide

theorem witness_StepRunsTheDecodedInstruction_bytes :
    decodeBytes cfgT [0x00, 0x5F] = .ok (.respDevOther 0x00 0x5F) ∧ decodeBytes cfgT [0x80] = .ok .respProbeOk ∧
      decodeBytes cfgT [0x7F] = .error (.notProbeOk 0x7F) := ⟨rfl, rfl, rfl⟩

theorem witness_PlacedWordRunsNext :
    decodeBytes s0.cfg.toConfig (wordBytes 4 0xCA0E7F35) = .ok (.writeEeprom 0x0E 0x7F) ∧
      decodeBytes s0.cfg.toConfig (wordBytes 2 0x8100) = .ok (.respDevTimeout 0x00) ∧
      decodeBytes s0.cfg.toConfig (wordBytes 1 0x80) = .ok .respProbeOk := ⟨rfl, rfl, rfl⟩

theorem witness_NoEventNoStep : State.reset.events = [] := rfl

theorem witness_StepKeepsInv : Legal (feed [.tick] (inTx 3 9 9999 10000)) ∧ Legal (feed [.tick] s0) ∧
    ∃ t, step (feed [.tick] (inTx 3 9 9999 10000)) = .next t :=
  ⟨⟨by decide, by decide, by decide, fun _ => ⟨0x66, 0x27, rfl⟩⟩,
    ⟨by decide, by decide, by decide, fun h => absurd rfl h⟩, _, rfl⟩

theorem legal_inTx : Legal (inTx 0 0 0 10000) :=
  ⟨by decide, by decide, by decide, fun _ => ⟨0x66, 0x27, rfl⟩⟩

theorem legal_inRx : Legal (inRx .readReg 1 0 9999 10000) ∧ Legal (inRx .probe 0 9 0 10000) :=
  ⟨⟨by decide, by decide, by decide, fun _ => ⟨0x30, 0x00, rfl⟩⟩,
    ⟨by decide, by decide, by decide, fun _ => ⟨0x30, 0x00, rfl⟩⟩⟩

theorem legal_inSettle : Legal (inSettle .readReg 199) ∧ Legal (inSettle .writeReg 199) :=
  ⟨⟨by decide, by decide, by decide, fun _ => ⟨0x30, 0x00, rfl⟩⟩,
    ⟨by decide, by decide, by decide, fun _ => ⟨0x30, 0x00, rfl⟩⟩⟩

theorem witness_TransitionTable :
    (Legal (inTx 0 0 0 10000) ∧ ∃ t, step (feed [.txAns 0] (inTx 0 0 0 10000)) = .next t) ∧
      TableRow (inTx 0 9 0 10000) (.txAns 0) .idle .incomplete :=
  ⟨⟨legal_inTx, _, rfl⟩, .txIncomplete (by decide) (by decide) (by decide)⟩

theorem witness_DisarmOnEveryExit : ∃ t, step (feed [.txErr] (inTx 0 0 0 10000)) = .next t ∧
    t.phase ≠ (feed [.txErr] (inTx 0 0 0 10000)).phase := ⟨_, rfl, by decide⟩

theorem witness_WrittenBy : ∃ t, step (feed [.start 2 0x66 0x27] s0) = .next t ∧ t.curOp ≠ s0.curOp ∧ t.fr ≠ s0.fr :=
  ⟨_, rfl, by decide, by decide⟩

theorem witness_CausesOfEveryStatus :
    (Legal (inTx 0 0 0 10000) ∧ ∃ t, step (feed [.txErr] (inTx 0 0 0 10000)) = .next t ∧ t.status = .ioError) ∧
      (∃ t, step (feed [.txAns 0] (inTx 3 9 0 10000)) = .next t ∧ t.status = .incomplete) ∧
      (∃ t, step (feed [.tick] (inRx .readReg 1 0 9999 10000)) = .next t ∧ t.status = .timeout) ∧
      (∃ t, step (feed [.rxAns [0x00]] (inRx .readReg 1 0 9999 10000)) = .next t ∧ t.status = .devOther) ∧
      (∃ t, step (feed [.rxAns [0x7F]] (inRx .probe 0 9 0 10000)) = .next t ∧ t.status = .testFailed) ∧
      (∃ t, step (feed [.tick] (inSettle .writeReg 199)) = .next t ∧ t.status = .ok) ∧
      (∃ t, step (feed [.rxAns [0xC8, 0x5F]] (inRx .readReg 0 0 9999 10000)) = .next t ∧ t.status = .ok) ∧
      (∃ t, step (feed [.rxAns [0x80]] (inRx .probe 0 9 0 10000)) = .next t ∧ t.status = .ok) :=
  ⟨⟨legal_inTx, _, rfl, rfl⟩, ⟨_, rfl, rfl⟩, ⟨_, rfl, rfl⟩, ⟨_, rfl, rfl⟩, ⟨_, rfl, rfl⟩, ⟨_, rfl, rfl⟩, ⟨_, rfl, rfl⟩, _,
    rfl, rfl⟩

theorem witness_WriteTypeFailuresAreTransport :
    Legal (inTx 0 0 0 10000) ∧ (inTx 0 0 0 10000).phase ≠ .idle ∧
      (inTx 0 0 0 10000).curOp ∈ [Op.writeReg, .writeEeprom, .shortPush, .longPush] ∧
      ∃ t, step (feed [.txErr] (inTx 0 0 0 10000)) = .next t := ⟨legal_inTx, by decide, by decide, _, rfl⟩

theorem witness_TimeoutIsNotDevTimeout :
    (Legal (inRx .readReg 1 0 9999 10000) ∧ ∃ t, step (feed [.tick] (inRx .readReg 1 0 9999 10000)) = .next t ∧
      t.status = .timeout) ∧
    (∃ t, step (feed [.rxAns [0x81, 0x00]] (inRx .readReg 0 0 9999 10000)) = .next t ∧ t.status = .devTimeout) :=
  ⟨⟨legal_inRx.1, _, rfl, rfl⟩, _, rfl, rfl⟩

theorem witness_ValueIsTheResponseByte :
    Legal (inRx .probe 0 9 0 10000) ∧ InvValue (inRx .probe 0 9 0 10000) ∧
      ∃ t, step (feed [.rxAns [0x80]] (inRx .probe 0 9 0 10000)) = .next t ∧ valueDefined t = true ∧ t.value = 0x80 :=
  ⟨legal_inRx.2, by decide, _, rfl, rfl, rfl⟩

theorem witness_UnspecifiedIsNeverSeen :
    Alike (feed [.tick] State.reset) (feed [.tick] { State.reset with value := 0x55 }) ∧
      Legal (feed [.tick] State.reset) ∧ Legal (feed [.tick] { State.reset with value := 0x55 }) ∧
      (∃ t, step (feed [.tick] State.reset) = .next t) ∧ step (feed [.txErr] State.reset) = .refused .noWriteAttempt :=
  ⟨⟨rfl, rfl, rfl, rfl, rfl, rfl, rfl, rfl, rfl, rfl, rfl, rfl, fun _ => rfl, fun _ => rfl, fun _ => rfl, fun _ => rfl,
      fun _ => rfl, fun _ => rfl, fun h => absurd h (by decide)⟩,
    ⟨by decide, by decide, by decide, fun h => absurd rfl h⟩, ⟨by decide, by decide, by decide, fun h => absurd rfl h⟩,
    ⟨_, rfl⟩, rfl⟩

/-- W9: the longest write that succeeds has 13 answers, so the bound is met. -/
theorem witness_WriteAllAnswerBound :
    (inTx 0 0 0 10000).phase = .tx ∧ (inTx 0 0 0 10000).txOff = 0 ∧ (inTx 0 0 0 10000).retries = 0 ∧
      ∃ t, steps 13 (feed ([0, 0, 0, 0, 0, 0, 0, 0, 0, 1, 1, 1, 1].map .txAns) (inTx 0 0 0 10000)) = .next t :=
  ⟨rfl, rfl, rfl, _, rfl⟩

/-- X6: the longest read that succeeds has 11 answers. -/
theorem witness_ReadExactAnswerBound :
    (inRx .readReg 0 0 0 10000).phase = .rx ∧ (inRx .readReg 0 0 0 10000).rxCnt = 0 ∧
      (inRx .readReg 0 0 0 10000).retries = 0 ∧ (inRx .readReg 0 0 0 10000).rxLen ≠ 0 ∧
      ∃ t, steps 11 (feed ([[], [], [], [], [], [], [], [], [], [0xC8], [0x5F]].map .rxAns) (inRx .readReg 0 0 0 10000)) =
        .next t := ⟨rfl, rfl, rfl, by decide, _, rfl⟩

/-- W2. -/
theorem witness_TxReceivesTheFrameInOrder :
    (inTx 0 0 0 10000).phase = .tx ∧ (inTx 0 0 0 10000).txOff = 0 ∧
      ∃ t, steps 2 (feed ([3, 1].map .txAns) (inTx 0 0 0 10000)) = .next t ∧ t.phase = .settle := ⟨rfl, rfl, _, rfl, rfl⟩

theorem witness_WriteOperationRuns :
    s0.phase = .idle ∧ Op.longPush ∈ [Op.writeReg, .writeEeprom, .shortPush, .longPush] ∧
      [0, 0, 0, 0, 0, 0, 0, 0, 0, 3, 1].sum = 4 ∧ [0, 0, 0, 0, 0, 0, 0, 0, 0, 3, 1].getLast? ≠ some 0 ∧
      [0, 0, 0, 0, 0, 0, 0, 0, 0, 3, 1].count 0 ≤ 9 := by decide

theorem witness_ReadOperationRuns :
    s0.phase = .idle ∧ Op.readEeprom ∈ [Op.readReg, .readEeprom] ∧ [4].sum = 4 ∧ [4].getLast? ≠ some 0 ∧
      [4].count 0 ≤ 9 ∧ [[], [(0xC8 : Byte)], [], [0x5F]].flatten = [0xC8, 0x5F] ∧
      [[], [(0xC8 : Byte)], [], [0x5F]].getLast? ≠ some [] ∧ [[], [(0xC8 : Byte)], [], [0x5F]].count [] ≤ 9 := by decide

theorem witness_ProbeOperationRuns :
    s0.phase = .idle ∧ [2, 0, 2].sum = 4 ∧ [2, 0, 2].getLast? ≠ some 0 ∧ [2, 0, 2].count 0 ≤ 9 ∧
      [[], [(0x7F : Byte)]].flatten = [0x7F] ∧ [[], [(0x7F : Byte)]].getLast? ≠ some [] ∧
      [[], [(0x7F : Byte)]].count [] ≤ 9 := by decide

theorem witness_SilenceEndsEveryOperation :
    Legal (inSettle .readReg 199) ∧ (inSettle .readReg 199).wait.toNat + 200 ≤ 10200 := ⟨legal_inSettle.1, by decide⟩

theorem witness_GettimeOfSetdaytime : (⟨31, 23, 59, 60⟩ : WallClock).InRange ∧
    (⟨1, 0, 0, 255⟩ : WallClock).InRange := by decide

theorem witness_SaveRestoreRoundTrip : (List.replicate 45 (0x07 : Byte)).length = 45 := by decide

/-- The second operation of gettime, and LONG_PUSH, the last operation of powercycle that can fail it. -/
theorem witness_FailedOperationEndsTheCommand :
    Status.devTimeout ≠ .ok ∧ (play (commandScript hostT .gettime) [(.ok, 0x5F)]).2 = .unfinished ∧
      (play (commandScript hostT .powercycle) (List.replicate 4 (.ok, 0))).2 = .unfinished := ⟨by decide, rfl, rfl⟩

theorem witness_PowercycleSurvivesItsSleepWrites :
    (List.replicate 5 (Status.ok, (0 : Byte))).length = 5 ∧ ∀ o ∈ List.replicate 5 (Status.ok, (0 : Byte)), o.1 = .ok := by
  decide

end Sys2Proof.Tests
end

section
/-! The checksum law of R81: what frame_check asks of a frame, as a complement of its bytes 0 and 3. -/

namespace Sys2Proof

/-- Adding the check mask is taking the complement (R110). -/
theorem xor_checkMask (c : Byte) : c ^^^ Config.checkMask = ~~~ c :=
  BitVec.xor_allOnes

/-- frame_check passes exactly the frames whose command and checksum bytes complement each other (R81, R112). -/
theorem frameCheck_eq_true_iff (f : Frame) : frameCheck f = true ↔ f.checksum = ~~~ f.command := by
  rw [frameCheck, beq_iff_eq, xor_checkMask]

/-- frame_check looks at neither location nor data (R81, R112). -/
theorem frameCheck_with_location_data (f : Frame) (l d : Byte) :
    frameCheck { f with location := l, data := d } = frameCheck f := rfl

/-- Settles O2: frame_check does not read location and data, encode computes the checksum from the command alone, and
what a changed frame must meet is `frameCheck_eq_true_iff` at its new bytes, whatever the frame was before. -/
theorem checksumCoversCommandOnly : Obligations.ChecksumCoversCommandOnly := by
  refine ⟨frameCheck_with_location_data, fun c l d l' d' => ?_, fun f c' k' _ => ?_⟩
  · rw [frameEncode_checksum, frameEncode_checksum]
  · exact frameCheck_eq_true_iff { f with command := c', checksum := k' }

end Sys2Proof
end

section
/-! What encode builds (R110), and the branches of decode_response outside the four OPEN codes (R114). -/

namespace Sys2Proof

/-- A frame's checksum byte never repeats its command byte (R110). -/
theorem frameEncode_checksum_ne_command (c l d : Byte) : (frameEncode c l d).checksum ≠ (frameEncode c l d).command := by
  rw [frameEncode_checksum, frameEncode_command, xor_checkMask]
  exact BitVec.not_self_ne (by decide)

/-- Settles O1: the bytes are those of encode by definition, and the corner cases are its checksum law. -/
theorem encodeBuildsTheFrame : Obligations.EncodeBuildsTheFrame := by
  refine ⟨fun c l d => rfl, fun l d => ?_, fun l d => ?_, fun c l d l' d' => ?_, frameEncode_checksum_ne_command⟩
  · rw [frameEncode_checksum, xor_checkMask]; rfl
  · rw [frameEncode_checksum, xor_checkMask]; rfl
  · rw [frameEncode_checksum, frameEncode_checksum]

namespace Machine

/-- A first byte 81 is the device's timeout, whatever the four OPEN codes are (R114). -/
theorem decodeResponse_codeTimeout (c : Config) (x : Byte) :
    decodeResponse c Config.codeTimeout x = .err .devTimeout := by
  have hne : Config.codeTimeout ≠ Config.successMark := by decide
  rw [decodeResponse, if_neg hne, if_pos rfl]

/-- A first byte without a row of its own takes the default row (R114, R86). -/
theorem decodeResponse_of_notMem_namedCodes {c : Config} {b : Byte} (h : b ∉ c.namedCodes) (x : Byte) :
    decodeResponse c b x = .err .devOther := by
  simp only [Config.namedCodes, List.mem_cons, List.not_mem_nil, or_false, not_or] at h
  obtain ⟨hsuccess, htimeout, hchecksum, hunrecognized, hnoReply, hreplyError⟩ := h
  rw [decodeResponse, if_neg hsuccess, if_neg htimeout, if_neg hchecksum, if_neg hunrecognized, if_neg hnoReply,
    if_neg hreplyError]

/-- Settles O5: one branch of decode_response per property; an unknown first byte is one outside `namedCodes`. -/
theorem decodeResponseProperties : Obligations.DecodeResponseProperties := by
  intro c
  refine ⟨fun v => decodeResponse_ok_iff.2 ⟨rfl, rfl⟩, decodeResponse_codeTimeout c, fun b x hb => ?_⟩
  have hunknown : b ∉ c.namedCodes := by simpa [Config.namedCodes] using hb
  exact decodeResponse_of_notMem_namedCodes hunknown x

end Machine
end Sys2Proof
end

section
/-! The step of one event in a given phase: the answers, errors and TICKs of a channel call, and what is refused
(R139, R140, R146, R150, R151). -/

namespace Sys2Proof.Machine

/-- A step with e in front of the inputs performs e on the state without it (R11). -/
theorem step_feed_singleton (e : Event) (s : State) : step (feed [e] s) = applyEvent e s := rfl

theorem ended_phase_ne_tx {st : Status} {v : Byte} {m : Nat} {s : State} : (ended st v m s).phase ≠ .tx := nofun

/-- No attempt is left outstanding by the completion rule (R158, R246). -/
theorem outstanding_ended (st : Status) (v : Byte) (m : Nat) (s : State) : outstanding (ended st v m s) = none := rfl

/-- A failure raised inside a channel call leaves the completion state of R246, with VALUE drawn freely. -/
theorem raise_disarm_eq_ended (st : Status) (s : State) :
    raise st (disarm s) = ended st (Config.freeByte s.freeCount) (s.freeCount + 1) s := rfl

theorem step_txAns_refused {s : State} (hp : s.phase ≠ .tx) (k : Nat) :
    step (feed [.txAns k] s) = .refused .noWriteAttempt := by
  rw [step_feed_singleton, applyEvent, txAns]
  cases h : s.phase with
  | tx => exact absurd h hp
  | idle | settle | rx => rfl

theorem step_txErr_refused {s : State} (hp : s.phase ≠ .tx) :
    step (feed [.txErr] s) = .refused .noWriteAttempt := by
  rw [step_feed_singleton, applyEvent, txErr]
  cases h : s.phase with
  | tx => exact absurd h hp
  | idle | settle | rx => rfl

theorem step_rxErr_refused {s : State} (hp : s.phase ≠ .rx) : step (feed [.rxErr] s) = .refused .noReadAttempt := by
  rw [step_feed_singleton, applyEvent, rxErr]
  cases h : s.phase with
  | rx => exact absurd h hp
  | idle | tx | settle => rfl

/-- An answer within what a read attempt asked for is progress of the read (R144, R146). -/
theorem step_rxAns {s : State} {bs : List Byte} (hp : s.phase = .rx)
    (hk : s.rxCnt.toNat + bs.length ≤ s.rxLen.toNat) : step (feed [.rxAns bs] s) = readProgress bs s := by
  rw [step_feed_singleton, applyEvent, rxAns, hp]
  exact if_pos hk

/-- The WAIT-th TICK of a channel call (R140, R151). -/
theorem tick_timeout {s : State} (hp : s.phase = .tx ∨ s.phase = .rx) (hg : s.gCnt.toNat + 1 = s.wait.toNat) :
    applyEvent .tick s = .next (raise .timeout (disarm s)) :=
  tick_next_iff.2 (.inr (.inl ⟨hp, (if_pos hg).symm⟩))

/-- Any other TICK of a channel call (R140, R151). -/
theorem tick_count {s : State} (hp : s.phase = .tx ∨ s.phase = .rx) (hg : s.gCnt.toNat + 1 ≠ s.wait.toNat) :
    applyEvent .tick s = .next { s with gCnt := BitVec.ofNat 32 (s.gCnt.toNat + 1) } :=
  tick_next_iff.2 (.inr (.inl ⟨hp, (if_neg hg).symm⟩))

/-- The TICK that ends the settle delay of an operation with a response (R142, R145). -/
theorem tick_readExactEntry {s : State} (hp : s.phase = .settle) (hc : s.sCnt.toNat + 1 = Config.settleTicks)
    (hl : s.rxLen ≠ 0) : applyEvent .tick s = .next (readExactEntry s) :=
  tick_next_iff.2 (.inr (.inr ⟨hp, ((if_pos hc).trans (if_neg hl)).symm⟩))

/-- Settles O17: START steps only into the state its request latches with write_all entered, and TX_OFF 0 makes the
first attempt offer the whole frame. -/
theorem writeAllEntryByStart : Obligations.WriteAllEntryByStart := by
  intro s t sel loc data h
  rw [step_feed_singleton] at h
  obtain ⟨-, op, hop, rfl⟩ := startEvent_next_iff.1 h
  exact ⟨rfl, rfl, rfl, rfl, rfl, rfl, op, hop, rfl⟩

/-- TX_ERR ends a write at once (R139). -/
theorem step_txErr {s : State} (hp : s.phase = .tx) :
    step (feed [.txErr] s) = .next (ended .ioError (Config.freeByte s.freeCount) (s.freeCount + 1) s) :=
  txErr_next_iff.2 ⟨hp, (raise_disarm_eq_ended ..).symm⟩

/-- RX_ERR ends a read at once (R150). -/
theorem step_rxErr {s : State} (hp : s.phase = .rx) :
    step (feed [.rxErr] s) = .next (ended .ioError (Config.freeByte s.freeCount) (s.freeCount + 1) s) :=
  rxErr_next_iff.2 ⟨hp, (raise_disarm_eq_ended ..).symm⟩

/-- Settles O20: TX_ERR raises IO_ERROR in PHASE TX, with nothing left outstanding, and is refused elsewhere. -/
theorem writeErrorStep : Obligations.WriteErrorStep :=
  fun _ => ⟨fun hp => ⟨_, _, step_txErr hp, outstanding_ended ..⟩, step_txErr_refused⟩

/-- Settles O24: RX_ERR raises IO_ERROR in PHASE RX, with nothing left outstanding, and is refused elsewhere. -/
theorem readErrorStep : Obligations.ReadErrorStep :=
  fun _ => ⟨fun hp => ⟨_, _, step_rxErr hp, outstanding_ended ..⟩, step_rxErr_refused⟩

end Sys2Proof.Machine
end

section
/-! Runs of TICKs: in PHASE IDLE nothing changes (R152), and in a channel call the guard counts up to WAIT
(R140, R151). -/

namespace Sys2Proof.Machine

theorem ticks_succ (n : Nat) : ticks (n + 1) = .tick :: ticks n := rfl

theorem ticks_succ' (n : Nat) : ticks (n + 1) = ticks n ++ [.tick] := List.replicate_succ'

/-- A run of n TICKs as n steps of the machine. -/
theorem steps_ticks {n : Nat} {s t : State} (h : runEvents (ticks n) s = some t) :
    steps n (feed (ticks n) s) = .next t := by
  have hsteps := steps_feed h
  rwa [ticks, List.length_replicate] at hsteps

theorem runEvents_ticks_idle {s : State} (hp : s.phase = .idle) (n : Nat) : runEvents (ticks n) s = some s := by
  induction n with
  | zero => rfl
  | succ n ih =>
    have htick : applyEvent .tick s = .next s := tick_next_iff.2 (.inl ⟨hp, rfl⟩)
    rw [ticks_succ, runEvents_cons htick, ih]

/-- The state with the guard's count at n, the only element a TICK short of WAIT changes (R140, R151). -/
def counted (n : Nat) (s : State) : State := { s with gCnt := BitVec.ofNat 32 n }

theorem counted_zero {s : State} (h0 : s.gCnt = 0) : counted 0 s = s := by
  show { s with gCnt := (0 : Word32) } = s
  rw [← h0]

/-- A count that has not passed WAIT fits the counter. -/
theorem counted_gCnt_toNat {n : Nat} {s : State} (hn : n ≤ s.wait.toNat) : (counted n s).gCnt.toNat = n :=
  (BitVec.toNat_ofNat n 32).trans (Nat.mod_eq_of_lt (hn.trans_lt s.wait.isLt))

theorem tick_counted {n : Nat} {s : State} (hp : s.phase = .tx ∨ s.phase = .rx) (hn : n + 1 < s.wait.toNat) :
    applyEvent .tick (counted n s) = .next (counted (n + 1) s) := by
  have hcnt : (counted n s).gCnt.toNat = n := counted_gCnt_toNat (by omega)
  have htick := tick_count (s := counted n s) hp (by rw [hcnt]; exact hn.ne)
  rwa [hcnt] at htick

theorem tick_counted_timeout {n : Nat} {s : State} (hp : s.phase = .tx ∨ s.phase = .rx) (hn : n + 1 = s.wait.toNat) :
    applyEvent .tick (counted n s) = .next (raise .timeout (disarm (counted n s))) := by
  refine tick_timeout hp ?_
  rw [counted_gCnt_toNat (by omega)]
  exact hn

/-- From arm() on, fewer than WAIT TICKs only count (R140, R151). -/
theorem runEvents_ticks_counted {n : Nat} {s : State} (hp : s.phase = .tx ∨ s.phase = .rx) (h0 : s.gCnt = 0)
    (hn : n < s.wait.toNat) : runEvents (ticks n) s = some (counted n s) := by
  induction n with
  | zero => exact congrArg some (counted_zero h0).symm
  | succ n ih =>
    rw [ticks_succ', runEvents_append, ih (by omega), Option.bind_some, runEvents_cons (tick_counted hp hn)]
    rfl

/-- The WAIT-th TICK after arm() raises TIMEOUT, with G_CNT left one below WAIT (R140, R151). -/
theorem runEvents_ticks_timeout {s : State} (hp : s.phase = .tx ∨ s.phase = .rx) (h0 : s.gCnt = 0)
    (hw : 1 ≤ s.wait.toNat) :
    runEvents (ticks s.wait.toNat) s = some (raise .timeout (disarm (counted (s.wait.toNat - 1) s))) := by
  obtain ⟨n, hn⟩ := Nat.exists_eq_add_of_le' hw
  rw [hn, ticks_succ', runEvents_append, runEvents_ticks_counted hp h0 (by omega), Option.bind_some,
    runEvents_cons (tick_counted_timeout hp hn.symm)]
  rfl

/-- Settles O26: a run of TICKs in PHASE IDLE performs them all and ends where it began. -/
theorem tickInIdle : Obligations.TickInIdle :=
  fun _ n hp => steps_ticks (runEvents_ticks_idle hp n)

/-- Settles O21: the two branches of a guarded TICK, and the run of WAIT of them, which end in `ended` by
`raise_disarm_eq_ended`; what ended is in PHASE IDLE, so a late answer has no step. -/
theorem timeoutInTx : Obligations.TimeoutInTx := by
  intro s hp
  refine ⟨fun hg => ⟨_, _, tick_timeout (.inl hp) hg, step_txAns_refused ended_phase_ne_tx,
      step_txErr_refused ended_phase_ne_tx⟩,
    fun hg => tick_count (.inl hp) hg,
    fun h0 n hn => steps_ticks (runEvents_ticks_counted (.inl hp) h0 hn),
    fun h0 hw => ⟨_, _, steps_ticks (runEvents_ticks_timeout (.inl hp) h0 hw)⟩⟩

/-- A run that begins with the TICK that ends the settle delay goes on from the entry to read_exact, whose guard starts
at 0 whatever the write left in G_CNT (R145, R151). -/
theorem steps_ticks_readExactEntry {n : Nat} {s t : State} (hp : s.phase = .settle)
    (hc : s.sCnt.toNat + 1 = Config.settleTicks) (hl : s.rxLen ≠ 0)
    (h : runEvents (ticks n) (readExactEntry s) = some t) :
    steps (1 + n) (feed (ticks (1 + n)) s) = .next t := by
  refine steps_ticks ?_
  rw [Nat.add_comm, ticks_succ, runEvents_cons (tick_readExactEntry hp hc hl), h]

/-- Settles O25: the two branches of a guarded TICK in PHASE RX, and the run of WAIT of them from the entry to
read_exact. -/
theorem timeoutInRx : Obligations.TimeoutInRx := by
  refine ⟨fun s hp => ⟨fun hg => ⟨_, _, tick_timeout (.inr hp) hg⟩, fun hg => tick_count (.inr hp) hg⟩,
    fun s hp hc hl hw => ⟨fun n hn => ?_, ?_⟩⟩
  · have hrun := runEvents_ticks_counted (s := readExactEntry s) (.inr rfl) rfl hn
    exact ⟨_, steps_ticks_readExactEntry hp hc hl hrun, rfl, rfl, rfl⟩
  · have hrun := runEvents_ticks_timeout (s := readExactEntry s) (.inr rfl) rfl hw
    exact ⟨_, steps_ticks_readExactEntry hp hc hl hrun, rfl, rfl, rfl, rfl, rfl, rfl, rfl⟩

end Sys2Proof.Machine
end

section
/-! The bytes of RB after an answer (R146), and the step on RX_ANS in its branches. -/

namespace Sys2Proof.Machine

/-- RB[0] after a store: the first byte stored, when the store begins there (R146). -/
theorem rbStore_b0 (rb : RespBuf) (i : Nat) (bs : List Byte) :
    (rbStore rb i bs).b0 = if i = 0 then bs.getD 0 rb.b0 else rb.b0 := by
  induction bs generalizing rb i with
  | nil => simp [rbStore]
  | cons b bs ih =>
    rw [rbStore, ih, if_neg i.succ_ne_zero]
    match i with
    | 0 | 1 | _ + 2 => rfl

/-- RB[1] after a store at i: byte 1 - i of those stored, when the store reaches it (R146). -/
theorem rbStore_b1 (rb : RespBuf) (i : Nat) (bs : List Byte) :
    (rbStore rb i bs).b1 = if i ≤ 1 then bs.getD (1 - i) rb.b1 else rb.b1 := by
  induction bs generalizing rb i with
  | nil => simp [rbStore]
  | cons b bs ih =>
    rw [rbStore, ih]
    match i with
    | 0 | 1 => rfl
    | n + 2 => rw [if_neg (by omega), if_neg (by omega)]; rfl

theorem readProgress_complete {s : State} {bs : List Byte} (h : s.rxCnt.toNat + bs.length = s.rxLen.toNat) :
    readProgress bs s = judge (disarm (deliverBytes bs s)) := if_pos h

theorem readProgress_incomplete {s : State} {bs : List Byte} (h : s.rxCnt.toNat + bs.length ≠ s.rxLen.toNat)
    (hr : retriesAfter s bs.length = 10) :
    readProgress bs s = .next (raise .incomplete (disarm (deliverBytes bs s))) := (if_neg h).trans (if_pos hr)

theorem readProgress_part {s : State} {bs : List Byte} (h : s.rxCnt.toNat + bs.length ≠ s.rxLen.toNat)
    (hr : retriesAfter s bs.length ≠ 10) : readProgress bs s = .next (deliverBytes bs s) :=
  (if_neg h).trans (if_neg hr)

/-- Settles O23: the bytes of RB are those of the store, and the step is `readProgress` in its three branches. -/
theorem readAnswerStep : Obligations.ReadAnswerStep := by
  intro s bs hp hk cnt ret p
  have hb0 : p.rb.b0 = _ := rbStore_b0 s.rb s.rxCnt.toNat bs
  have hb1 : p.rb.b1 = _ := rbStore_b1 s.rb s.rxCnt.toNat bs
  have hstep : step (feed [.rxAns bs] s) = readProgress bs s := step_rxAns hp hk
  refine ⟨fun j hj h => ?_, fun j hj h => ?_, fun h => ?_, fun h => ?_,
    fun hc => hstep.trans (readProgress_complete hc),
    fun hc hr => ⟨_, _, hstep.trans (readProgress_incomplete hc hr)⟩,
    fun hc hr => hstep.trans (readProgress_part hc hr)⟩
  · obtain ⟨hi, rfl⟩ : s.rxCnt.toNat = 0 ∧ j = 0 := by omega
    rw [hb0, if_pos hi, List.getD_eq_getElem _ _ hj]
  · obtain ⟨hi, rfl⟩ : s.rxCnt.toNat ≤ 1 ∧ j = 1 - s.rxCnt.toNat := by omega
    rw [hb1, if_pos hi, List.getD_eq_getElem _ _ hj]
  · rw [hb0]
    split
    · exact List.getD_eq_default _ _ (by omega)
    · rfl
  · rw [hb1]
    split
    · exact List.getD_eq_default _ _ (by omega)
    · rfl

end Sys2Proof.Machine
end

section
/-! The guard on the exits of a channel call (R132). -/

namespace Sys2Proof.Machine

/-- An event that leaves PHASE TX or RX disarms the guard (R132). -/
theorem Applied.gArmed_eq_false_of_leaves_call {s t : State} {e : Event} (h : Applied s e t)
    (hp : s.phase = .tx ∨ s.phase = .rx) (hne : t.phase ≠ s.phase) : t.gArmed = false := by
  cases h with
  | start hidle => simp [hidle] at hp
  | tickRead hsettle => simp [hsettle] at hp
  | cfgWait | txPart | rxPart | tickIdle | tickGuard | tickSettle => exact absurd rfl hne
  | txDone | txIncomplete | txErr | rxOk | rxDev | rxProbe | rxIncomplete | rxErr | tickTimeout | tickOk | reset => rfl

/-- Settles O41: a step takes one of the forms of `Applied`, and the one form of RESET has the guard off. -/
theorem disarmOnEveryExit : Obligations.DisarmOnEveryExit := by
  refine ⟨fun s t h hp hne => ?_, fun s t h => ?_⟩
  · obtain ⟨e, rest, -, happlied⟩ := step_applied h
    exact happlied.gArmed_eq_false_of_leaves_call hp hne
  · cases applyEvent_applied (e := .reset) h
    rfl

end Sys2Proof.Machine
end

section
/-! The judgement of a response that an RX_ANS has completed (R146, R178). -/

namespace Sys2Proof.Machine

/-- An answer that brings the last of the RX_LEN bytes leaves the response complete (R146). -/
theorem deliverBytes_rxCnt_eq_rxLen {s : State} {bs : List Byte} (hk : s.rxCnt.toNat + bs.length = s.rxLen.toNat) :
    (deliverBytes bs s).rxCnt = (deliverBytes bs s).rxLen := by
  show BitVec.ofNat 2 (s.rxCnt.toNat + bs.length) = s.rxLen
  rw [hk, BitVec.ofNat_toNat, BitVec.setWidth_eq]

theorem judge_read_ok {s : State} {v : Byte} (hdue : resp2Due s = true)
    (hd : decodeResponse s.cfg.toConfig s.rb.b0 s.rb.b1 = .ok v) : judge s = .next (raiseWithValue .ok v s) := by
  obtain ⟨-, -, hread⟩ := resp2Due_iff.1 hdue
  rw [judge_read hread, exec_decodeResp2, hd]
  exact judgeOk_next_iff.2 ⟨hdue, rfl⟩

theorem judge_read_err {s : State} {st : Status} (hdue : resp2Due s = true)
    (hd : decodeResponse s.cfg.toConfig s.rb.b0 s.rb.b1 = .err st) : judge s = .next (raise st s) := by
  obtain ⟨-, -, hread⟩ := resp2Due_iff.1 hdue
  rw [judge_read hread, exec_decodeResp2, hd]
  exact judgeErr_next_iff.2 ⟨hdue, rfl⟩

theorem judge_probe_due {s : State} (hdue : resp1Due s = true) :
    judge s = .next (raiseWithValue (if probeOk s.rb.b0 then .ok else .testFailed) s.rb.b0 s) := by
  obtain ⟨-, -, hprobe⟩ := resp1Due_iff.1 hdue
  rw [judge_probe hprobe]
  exact judgeProbe_next_iff.2 ⟨hdue, rfl⟩

/-- The RX_ANS that completes read_exact turns the guard off and judges the response, in one step (R146, R178). -/
theorem step_rxAns_complete {s : State} {bs : List Byte} (hp : s.phase = .rx)
    (hk : s.rxCnt.toNat + bs.length = s.rxLen.toNat) :
    step (feed [.rxAns bs] s) = judge (disarm (deliverBytes bs s)) :=
  (step_rxAns hp hk.le).trans (readProgress_complete hk)

/-- Settles O31: the completing answer leaves a response due for judgement, and `judge` ends the operation by the verdict
of decode_response for a read, by probe_ok for PROBE; `ended` of the delivered state keeps its RB. -/
theorem judgementOfAResponse : Obligations.JudgementOfAResponse := by
  intro s bs hp hk p
  have hstep : step (feed [.rxAns bs] s) = judge (disarm (deliverBytes bs s)) := step_rxAns_complete hp hk
  have hcnt := deliverBytes_rxCnt_eq_rxLen hk
  refine ⟨fun hread => ?_, fun hprobe => ?_⟩
  · have hdue : resp2Due (disarm (deliverBytes bs s)) = true := resp2Due_iff.2 ⟨hp, hcnt, hread⟩
    exact ⟨fun v hd => hstep.trans (judge_read_ok hdue hd), fun st hd => ⟨_, _, hstep.trans (judge_read_err hdue hd)⟩⟩
  · have hdue : resp1Due (disarm (deliverBytes bs s)) = true := resp1Due_iff.2 ⟨hp, hcnt, hprobe⟩
    have hjudge : step (feed [.rxAns bs] s) =
        .next (ended (if probeOk p.rb.b0 then .ok else .testFailed) p.rb.b0 s.freeCount p) :=
      hstep.trans (judge_probe_due hdue)
    exact ⟨fun hok => by rw [hjudge, if_pos hok], fun hfail => by rw [hjudge, hfail]; rfl⟩

end Sys2Proof.Machine
end

section
/-! START while an operation is in flight (R181). -/

namespace Sys2Proof

/-- A request is its operation with its own operands (R90). -/
theorem eq_requestOf_of_opOf {i : Instr} {op : Op} (h : opOf i = some op) : i = requestOf op (locOf i) (dataOf i) := by
  cases i <;> cases h <;> rfl

namespace Machine

theorem exec_request_busy {s : State} {i : Instr} (hp : s.phase ≠ .idle) (hi : (opOf i).isSome = true) :
    exec i s = .refused .startWhileBusy := by
  obtain ⟨op, hop⟩ := Option.isSome_iff_exists.1 hi
  rw [eq_requestOf_of_opOf hop, exec_requestOf, startOp_busy hp]

/-- START while busy has no step: a selector that names an operation is refused for the phase, selector 7 for itself
(R181, U1, U3). -/
theorem startEvent_busy {s : State} (hp : s.phase ≠ .idle) (sel : BitVec 3) (loc data : Byte) :
    startEvent sel loc data s =
      .refused (if (opOfSelector sel).isSome then .startWhileBusy else .reservedSelector) := by
  rw [startEvent, decodeStart]
  cases opOfSelector sel with
  | none => rfl
  | some op => exact (exec_requestOf op loc data s).trans (startOp_busy hp op loc data)

/-- Settles O15: a request runs as the START of its operation, which is refused in every PHASE other than IDLE. -/
theorem startWhileBusyHasNoStep : Obligations.StartWhileBusyHasNoStep :=
  fun _ hp => ⟨fun _ => exec_request_busy hp, fun sel loc data => ⟨_, startEvent_busy hp sel loc data⟩⟩

end Machine
end Sys2Proof
end

section
/-! The completion rule, and what can raise a failure (R242, R243, R246). -/

namespace Sys2Proof.Machine

theorem raise_eq_ended (st : Status) (s : State) :
    raise st s = ended st (Config.freeByte s.freeCount) (s.freeCount + 1) s := rfl

theorem raiseWithValue_eq_ended (st : Status) (v : Byte) (s : State) :
    raiseWithValue st v s = ended st v s.freeCount s := rfl

/-- Settles O30: both forms of raise are the one completion state `ended`, which names every element it sets. -/
theorem completionRule : Obligations.CompletionRule :=
  fun s st _ => ⟨⟨_, _, raise_eq_ended st s⟩, fun v => raiseWithValue_eq_ended st v s⟩

/-- A step with e in front of the inputs takes one of the forms of `Applied`. -/
theorem step_feed_applied {s t : State} {e : Event} (h : step (feed [e] s) = .next t) : Applied s e t :=
  applyEvent_applied h

/-! ## What a legal state says of the operation in flight -/

theorem Legal.rxLen_eq_rxLenOf {s : State} (h : Legal s) (hp : s.phase ≠ .idle) : s.rxLen = rxLenOf s.curOp := by
  obtain ⟨-, -, hlen, -⟩ := h
  exact hlen hp

theorem Legal.rxLen_pos {s : State} (h : Legal s) (hp : s.phase = .rx) : 1 ≤ s.rxLen.toNat := by
  obtain ⟨⟨-, -, ⟨-, -, hrx⟩, -⟩, -⟩ := h
  exact (hrx hp).1

theorem Legal.status_eq_none {s : State} (h : Legal s) (hp : s.phase ≠ .idle) : s.status = .none := by
  obtain ⟨⟨-, -, -, -, -, -, hflight⟩, -⟩ := h
  exact (hflight hp).2

theorem Legal.gArmed_eq_true {s : State} (h : Legal s) (hp : s.phase = .tx ∨ s.phase = .rx) : s.gArmed = true := by
  obtain ⟨⟨hguard, -⟩, -⟩ := h
  exact hguard.2 hp

/-- An operation without a response never reaches read_exact (R25, R89). -/
theorem Legal.phase_ne_rx {s : State} (h : Legal s) (hl : rxLenOf s.curOp = 0) : s.phase ≠ .rx := by
  intro hp
  have hlen : s.rxLen = 0 := (h.rxLen_eq_rxLenOf (by simp [hp])).trans hl
  have hpos := h.rxLen_pos hp
  simp [hlen] at hpos

theorem rxLenOf_writeType {op : Op} (h : op ∈ [Op.writeReg, .writeEeprom, .shortPush, .longPush]) : rxLenOf op = 0 := by
  cases op with
  | writeReg | writeEeprom | shortPush | longPush => rfl
  | readReg | readEeprom | probe => simp at h

/-! ## What can happen outside PHASE RX -/

/-- The RX stream is read in PHASE RX only (R144). -/
theorem Applied.rxTaken_eq {s t : State} {e : Event} (h : Applied s e t) (hp : s.phase ≠ .rx) :
    t.rxTaken = s.rxTaken := by
  cases h with
  | rxOk hrx | rxDev hrx | rxProbe hrx | rxIncomplete hrx | rxPart hrx | rxErr hrx => exact absurd hrx hp
  | start | cfgWait | txDone | txIncomplete | txPart | txErr | tickIdle | tickTimeout | tickGuard | tickOk | tickRead
  | tickSettle | reset => rfl

/-- Outside PHASE RX no response is judged, so a step can fail in transport only (R180, R240). -/
theorem Applied.status_outside_rx {s t : State} {e : Event} (h : Applied s e t) (hp : s.phase ≠ .rx) :
    t.status = s.status ∨ t.status = .none ∨ t.status = .ok ∨ statusKind t.status = .transport := by
  cases h with
  | rxOk hrx | rxDev hrx | rxProbe hrx | rxIncomplete hrx | rxPart hrx | rxErr hrx => exact absurd hrx hp
  | cfgWait | txDone | txPart | tickIdle | tickGuard | tickRead | tickSettle => exact .inl rfl
  | start | reset => exact .inr (.inl rfl)
  | tickOk => exact .inr (.inr (.inl rfl))
  | txIncomplete | txErr | tickTimeout => exact .inr (.inr (.inr rfl))

/-- Settles O44: a write-type operation has no response, so it is never in PHASE RX, and while in flight its STATUS is
NONE. -/
theorem writeTypeFailuresAreTransport : Obligations.WriteTypeFailuresAreTransport := by
  intro s t e hlegal hp hop h
  have happlied := step_feed_applied h
  have hrx : s.phase ≠ .rx := hlegal.phase_ne_rx (rxLenOf_writeType hop)
  refine ⟨happlied.rxTaken_eq hrx, ?_⟩
  rcases happlied.status_outside_rx hrx with hsame | hst
  · exact .inl (hsame.trans (hlegal.status_eq_none hp))
  · exact hst

/-! ## The causes of TIMEOUT and of DEV_TIMEOUT -/

/-- Only a first byte 81 is the device's timeout (R114). -/
theorem eq_codeTimeout_of_decodeResponse {c : Config} {r0 r1 : Byte} (h : decodeResponse c r0 r1 = .err .devTimeout) :
    r0 = Config.codeTimeout := by
  unfold decodeResponse at h
  split_ifs at h with hsuccess htimeout
  · exact htimeout
  all_goals cases h

/-- TIMEOUT is raised by the guard alone: by the TICK that completes WAIT (R140, R151, R242). -/
theorem Applied.cause_of_timeout {s t : State} {e : Event} (h : Applied s e t) (hne : t.status ≠ s.status)
    (ht : t.status = .timeout) :
    e = .tick ∧ (s.phase = .tx ∨ s.phase = .rx) ∧ s.gCnt.toNat + 1 = s.wait.toNat := by
  cases h with
  | tickTimeout hp hg => exact ⟨rfl, hp, hg⟩
  | cfgWait | txDone | txPart | rxPart | tickIdle | tickGuard | tickRead | tickSettle => exact absurd rfl hne
  | start | txIncomplete | txErr | rxOk | rxIncomplete | rxErr | tickOk | reset => cases ht
  | rxDev _ _ _ st hprotocol =>
    cases (ht : st = .timeout)
    cases hprotocol
  | rxProbe => rw [raiseWithValue_status] at ht; split at ht <;> cases ht

/-- DEV_TIMEOUT is raised by the device alone: by the answer that completes the response of a read, with 81 in RB[0]
(R114, R178, R242). -/
theorem Applied.cause_of_devTimeout {s t : State} {e : Event} (h : Applied s e t) (hne : t.status ≠ s.status)
    (ht : t.status = .devTimeout) :
    (∃ bs, e = .rxAns bs) ∧ s.phase = .rx ∧ isReadOp s.curOp = true ∧ t.rxCnt = s.rxLen ∧
      t.rb.b0 = Config.codeTimeout := by
  cases h with
  | rxDev hp hk hread st _ _ hd =>
    cases (ht : st = .devTimeout)
    exact ⟨⟨_, rfl⟩, hp, hread, deliverBytes_rxCnt_eq_rxLen hk, eq_codeTimeout_of_decodeResponse hd⟩
  | cfgWait | txDone | txPart | rxPart | tickIdle | tickGuard | tickRead | tickSettle => exact absurd rfl hne
  | start | txIncomplete | txErr | rxOk | rxIncomplete | rxErr | tickTimeout | tickOk | reset => cases ht
  | rxProbe => rw [raiseWithValue_status] at ht; split at ht <;> cases ht

/-- Settles O45: each code has one cause among the forms of `Applied`; a legal state adds that the guard is armed in a
channel call, and that the response of a read is two bytes long. -/
theorem timeoutIsNotDevTimeout : Obligations.TimeoutIsNotDevTimeout := by
  refine ⟨fun s t e hlegal h hne => ⟨fun ht => ?_, fun ht => ?_⟩, by decide⟩
  · obtain ⟨he, hp, hg⟩ := (step_feed_applied h).cause_of_timeout hne ht
    exact ⟨he, hlegal.gArmed_eq_true hp, hg⟩
  · obtain ⟨he, hp, hread, hcnt, hb0⟩ := (step_feed_applied h).cause_of_devTimeout hne ht
    have hlen : s.rxLen = 2 := (hlegal.rxLen_eq_rxLenOf (by simp [hp])).trans (rxLenOf_read hread)
    exact ⟨he, hread, congrArg BitVec.toNat (hcnt.trans hlen), hb0⟩

end Sys2Proof.Machine
end

section
/-! The rows of the two tables as the decoder reads them: which bytes a row asks for, and which are its operands (R85,
R86, R114). Every fact about reading a frame or a response back goes through these two. -/

namespace Sys2Proof

/-- What the row of a request asks of the bytes of a frame besides its checksum, and which bytes are its operands
(R85). -/
def requestRow (c : Config) (f : Frame) : Instr → Prop
  | .readReg l => f.command = Config.cmdReadReg ∧ l = f.location
  | .readEeprom l => f.command = Config.cmdReadEeprom ∧ l = f.location
  | .writeReg l b => f.command = Config.cmdWriteReg ∧ l = f.location ∧ b = f.data
  | .writeEeprom l b => f.command = Config.cmdWriteEeprom ∧ l = f.location ∧ b = f.data
  | .shortPush => f.command = Config.cmdPush ∧ f.data = Config.pushShort
  | .longPush => f.command = Config.cmdPush ∧ f.data = Config.pushLong
  | .probe => f = probeFrame c
  | .respSuccess _ | .respDevTimeout _ | .respDevChecksum _ | .respDevUnrecognized _ => False
  | .respDevNoReply _ | .respDevReplyError _ | .respDevOther _ _ | .respProbeOk => False

theorem requestRow_of_decodeRequest {c : Config} {f : Frame} {i : Instr} (h : decodeRequest c f = .ok i) :
    frameCheck f = true ∧ requestRow c f i := by
  unfold decodeRequest at h
  split_ifs at h with hcheck hreadReg hreadEeprom hwriteReg hwriteEeprom hshort hlong hprobe <;> cases h
  all_goals refine ⟨by simpa using hcheck, ?_⟩
  · exact ⟨hreadReg, rfl⟩
  · exact ⟨hreadEeprom, rfl⟩
  · exact ⟨hwriteReg, rfl, rfl⟩
  · exact ⟨hwriteEeprom, rfl, rfl⟩
  · exact hshort
  · exact hlong
  · exact hprobe

/-- The probe frame is read as PROBE where no other row takes it (log 14). -/
theorem decodeRequest_probeFrame {c : Config} (h : c.ProbeClear) : decodeRequest c (probeFrame c) = .ok .probe := by
  obtain ⟨hcmd, hpush⟩ := h
  simp only [List.mem_cons, List.not_mem_nil, or_false, not_or, not_and] at hcmd hpush
  obtain ⟨hreadReg, hreadEeprom, hwriteReg, hwriteEeprom⟩ := hcmd
  have hshort : ¬ (c.probeCmd = Config.cmdPush ∧ c.probeData = Config.pushShort) := fun h => (hpush h.1).1 h.2
  have hlong : ¬ (c.probeCmd = Config.cmdPush ∧ c.probeData = Config.pushLong) := fun h => (hpush h.1).2 h.2
  simp only [decodeRequest, probeFrame, frameCheck, frameEncode_command, frameEncode_checksum, frameEncode_data,
    hreadReg, hreadEeprom, hwriteReg, hwriteEeprom, hshort, hlong, beq_self_eq_true, Bool.not_true, Bool.false_eq_true,
    if_false, if_true]

/-- A frame that passes is read as a row exactly when its bytes meet the row (R85, R87). -/
theorem decodeRequest_eq_ok_iff {c : Config} {f : Frame} {i : Instr} (hclear : i = .probe → c.ProbeClear) :
    decodeRequest c f = .ok i ↔ frameCheck f = true ∧ requestRow c f i := by
  refine ⟨requestRow_of_decodeRequest, fun ⟨hcheck, hrow⟩ => ?_⟩
  cases i with
  | readReg l | readEeprom l =>
    obtain ⟨hcmd, rfl⟩ := hrow
    simp [decodeRequest, hcheck, hcmd]
  | writeReg l b | writeEeprom l b =>
    obtain ⟨hcmd, rfl, rfl⟩ := hrow
    simp [decodeRequest, hcheck, hcmd]
  | shortPush | longPush =>
    obtain ⟨hcmd, hdata⟩ := hrow
    simp [decodeRequest, hcheck, hcmd, hdata]
  | probe =>
    rw [show f = probeFrame c from hrow]
    exact decodeRequest_probeFrame (hclear rfl)
  | respSuccess | respDevTimeout | respDevChecksum | respDevUnrecognized | respDevNoReply | respDevReplyError
  | respDevOther | respProbeOk => exact hrow.elim

/-- A first byte without a row of its own, test by test (R114). -/
theorem notMem_namedCodes_iff {c : Config} {b : Byte} :
    b ∉ c.namedCodes ↔ ¬ b = Config.successMark ∧ ¬ b = Config.codeTimeout ∧ ¬ b = c.codeChecksum ∧
      ¬ b = c.codeUnrecognized ∧ ¬ b = c.codeNoReply ∧ ¬ b = c.codeReplyError := by
  simp only [Config.namedCodes, List.mem_cons, List.not_mem_nil, or_false, not_or]

/-- Under an admissible configuration no OPEN code is taken by a test before its own (R114, D11). -/
theorem Config.Admissible.openCodes_ne {c : Config} (h : c.Admissible) :
    (¬ c.codeChecksum = Config.successMark ∧ ¬ c.codeChecksum = Config.codeTimeout) ∧
    (¬ c.codeUnrecognized = Config.successMark ∧ ¬ c.codeUnrecognized = Config.codeTimeout ∧
      ¬ c.codeUnrecognized = c.codeChecksum) ∧
    (¬ c.codeNoReply = Config.successMark ∧ ¬ c.codeNoReply = Config.codeTimeout ∧
      ¬ c.codeNoReply = c.codeChecksum ∧ ¬ c.codeNoReply = c.codeUnrecognized) ∧
    (¬ c.codeReplyError = Config.successMark ∧ ¬ c.codeReplyError = Config.codeTimeout ∧
      ¬ c.codeReplyError = c.codeChecksum ∧ ¬ c.codeReplyError = c.codeUnrecognized ∧
      ¬ c.codeReplyError = c.codeNoReply) := by
  simp only [Config.Admissible, List.nodup_cons, List.mem_cons, List.not_mem_nil, or_false, not_or] at h
  grind

/-- What the row of a two-byte response asks of its bytes, and which bytes are its operands (R86). -/
def responseRow (c : Config) (code v : Byte) : Instr → Prop
  | .respSuccess w => code = Config.successMark ∧ w = v
  | .respDevTimeout w => code = Config.codeTimeout ∧ w = v
  | .respDevChecksum w => code = c.codeChecksum ∧ w = v
  | .respDevUnrecognized w => code = c.codeUnrecognized ∧ w = v
  | .respDevNoReply w => code = c.codeNoReply ∧ w = v
  | .respDevReplyError w => code = c.codeReplyError ∧ w = v
  | .respDevOther k w => code ∉ c.namedCodes ∧ k = code ∧ w = v
  | .readReg _ | .readEeprom _ | .writeReg _ _ | .writeEeprom _ _ | .shortPush | .longPush | .probe => False
  | .respProbeOk => False

/-- The rows of the four OPEN codes: the only ones that can be shadowed by a row tested before (R114, D11). -/
def Instr.openCode : Instr → Bool
  | .respDevChecksum _ | .respDevUnrecognized _ | .respDevNoReply _ | .respDevReplyError _ => true
  | _ => false

theorem responseRow_decodeResp2 (c : Config) (code v : Byte) : responseRow c code v (decodeResp2 c code v) := by
  unfold decodeResp2
  split_ifs with hsuccess htimeout hchecksum hunrecognized hnoReply hreplyError
  · exact ⟨hsuccess, rfl⟩
  · exact ⟨htimeout, rfl⟩
  · exact ⟨hchecksum, rfl⟩
  · exact ⟨hunrecognized, rfl⟩
  · exact ⟨hnoReply, rfl⟩
  · exact ⟨hreplyError, rfl⟩
  · exact ⟨notMem_namedCodes_iff.2 ⟨hsuccess, htimeout, hchecksum, hunrecognized, hnoReply, hreplyError⟩, rfl, rfl⟩

/-- A two-byte response is read as a row exactly when its bytes meet the row (R86, R88, R114). -/
theorem decodeResp2_eq_iff {c : Config} {code v : Byte} {i : Instr} (hopen : i.openCode = true → c.Admissible) :
    decodeResp2 c code v = i ↔ responseRow c code v i := by
  refine ⟨fun h => h ▸ responseRow_decodeResp2 c code v, fun hrow => ?_⟩
  cases i with
  | respSuccess w | respDevTimeout w =>
    obtain ⟨rfl, rfl⟩ := hrow
    simp [decodeResp2]
  | respDevChecksum w | respDevUnrecognized w | respDevNoReply w | respDevReplyError w =>
    obtain ⟨rfl, rfl⟩ := hrow
    simp only [decodeResp2, (hopen rfl).openCodes_ne, if_false, if_true]
  | respDevOther k w =>
    obtain ⟨hnamed, rfl, rfl⟩ := hrow
    simp only [decodeResp2, notMem_namedCodes_iff.1 hnamed, if_false]
  | readReg | readEeprom | writeReg | writeEeprom | shortPush | longPush | probe | respProbeOk => exact hrow.elim

end Sys2Proof
end

section
/-! Encoding and reading back (R84, R86), row by row. -/

namespace Sys2Proof

theorem frameCheck_frameEncode (c l d : Byte) : frameCheck (frameEncode c l d) = true :=
  (frameCheck_eq_true_iff _).2 (xor_checkMask c)

theorem decodeBytes_frameBytes (c : Config) (f : Frame) : decodeBytes c f.bytes = decodeRequest c f := rfl

/-- The bytes of a request are those of a frame that passes the check and meets the row (R84). -/
theorem encode_request {c : Config} {i : Instr} (h : (opOf i).isSome = true) :
    ∃ f : Frame, encode c i = f.bytes ∧ frameCheck f = true ∧ requestRow c f i := by
  cases i with
  | readReg | readEeprom | writeReg | writeEeprom | shortPush | longPush | probe =>
    exact ⟨_, rfl, frameCheck_frameEncode .., by
      simp only [requestRow, probeFrame, frameEncode_command, frameEncode_location, frameEncode_data, and_self]⟩
  | respSuccess | respDevTimeout | respDevChecksum | respDevUnrecognized | respDevNoReply | respDevReplyError
  | respDevOther | respProbeOk => cases h

/-- The bytes of a response of a read are the two that meet its row, when it is well formed (R86). -/
theorem encode_response {c : Config} {i : Instr} (h : opOf i = none) (hi : i ≠ .respProbeOk) (hwf : i.wf c = true) :
    ∃ code v, encode c i = [code, v] ∧ responseRow c code v i := by
  cases i with
  | readReg | readEeprom | writeReg | writeEeprom | shortPush | longPush | probe => cases h
  | respSuccess | respDevTimeout | respDevChecksum | respDevUnrecognized | respDevNoReply | respDevReplyError =>
    exact ⟨_, _, rfl, rfl, rfl⟩
  | respDevOther => exact ⟨_, _, rfl, by simpa [Instr.wf] using hwf, rfl, rfl⟩
  | respProbeOk => exact absurd rfl hi

/-- Settles O8: a request goes back through its row of the request table, a response of a read through its row of the
response table, and the response of PROBE is its one byte. -/
theorem decodeEncodeRoundTrip : Obligations.DecodeEncodeRoundTrip := by
  intro c i hadm hwf hclear
  cases hop : opOf i with
  | some op =>
    obtain ⟨f, hbytes, hcheck, hrow⟩ := encode_request (c := c) (i := i) (by rw [hop]; rfl)
    rw [hbytes, decodeBytes_frameBytes]
    exact (decodeRequest_eq_ok_iff hclear).2 ⟨hcheck, hrow⟩
  | none =>
    by_cases hi : i = .respProbeOk
    · rw [hi]; rfl
    · obtain ⟨code, v, hbytes, hrow⟩ := encode_response hop hi hwf
      rw [hbytes]
      exact congrArg Except.ok ((decodeResp2_eq_iff fun _ => hadm).2 hrow)

end Sys2Proof
end

section
/-! Words of the opcode table as bytes, and its masks as conditions on single bytes (R9, R85, R86). -/

namespace Sys2Proof

/-- The four bytes of a table word W as a frame (R9). -/
def Frame.ofWord (W : BitVec 32) : Frame :=
  ⟨W.extractLsb' 24 8, W.extractLsb' 16 8, W.extractLsb' 8 8, W.extractLsb' 0 8⟩

theorem Frame.ofWord_inj {W W' : BitVec 32} : Frame.ofWord W = Frame.ofWord W' ↔ W = W' := by
  refine ⟨fun h => ?_, fun h => h ▸ rfl⟩
  obtain ⟨h3, h2, h1, h0⟩ := Frame.mk.inj h
  simp only [← BitVec.toNat_inj, BitVec.extractLsb'_toNat, Nat.shiftRight_eq_div_pow] at *
  omega

/-- A word put together from four bytes has these bytes (R9). -/
theorem Frame.ofWord_append (a b c d : Byte) : Frame.ofWord (a ++ b ++ c ++ d) = ⟨a, b, c, d⟩ := by
  have hb : (a ++ b ++ c ++ d).extractLsb' 16 8 = (a ++ b).extractLsb' 0 8 :=
    (BitVec.extractLsb'_append_eq_of_le (by decide)).trans (BitVec.extractLsb'_append_eq_of_le (by decide))
  have ha : (a ++ b ++ c ++ d).extractLsb' 24 8 = (a ++ b).extractLsb' 8 8 :=
    (BitVec.extractLsb'_append_eq_of_le (by decide)).trans (BitVec.extractLsb'_append_eq_of_le (by decide))
  have hc : (a ++ b ++ c ++ d).extractLsb' 8 8 = (a ++ b ++ c).extractLsb' 0 8 :=
    BitVec.extractLsb'_append_eq_of_le (by decide)
  exact Frame.mk.injEq .. ▸ ⟨ha.trans BitVec.extractLsb'_append_eq_left, hb.trans BitVec.extractLsb'_append_eq_right,
    hc.trans BitVec.extractLsb'_append_eq_right, BitVec.extractLsb'_append_eq_right⟩

/-- The byte FF of a mask keeps a byte whole. -/
theorem byte_and_ones (b : Byte) : b &&& 0xFF#8 = b := BitVec.and_allOnes

/-- A mask over bytes 0 and 3 of a word asks for these two bytes (opcode_table.json). -/
theorem and_mask_command_checksum_iff {W : BitVec 32} (a d : Byte) :
    W &&& 0xFF0000FF#32 = a ++ 0#8 ++ 0#8 ++ d ↔ (Frame.ofWord W).command = a ∧ (Frame.ofWord W).checksum = d := by
  rw [← Frame.ofWord_inj, Frame.ofWord_append]
  simp [Frame.ofWord, BitVec.extractLsb'_and, byte_and_ones]

/-- A mask over bytes 0, 2 and 3 asks for these three bytes (opcode_table.json). -/
theorem and_mask_command_data_checksum_iff {W : BitVec 32} (a c d : Byte) :
    W &&& 0xFF00FFFF#32 = a ++ 0#8 ++ c ++ d ↔
      (Frame.ofWord W).command = a ∧ (Frame.ofWord W).data = c ∧ (Frame.ofWord W).checksum = d := by
  rw [← Frame.ofWord_inj, Frame.ofWord_append]
  simp [Frame.ofWord, BitVec.extractLsb'_and, byte_and_ones]

/-- A two-byte word is its bytes, byte 0 the most significant (R9). -/
theorem append_extract_halves (V : BitVec 16) : V.extractLsb' 8 8 ++ V.extractLsb' 0 8 = V :=
  (BitVec.extractLsb'_append_extractLsb'_eq_extractLsb' (len₁ := 8) rfl).trans BitVec.extractLsb'_eq_self

/-- A mask over byte 0 of a two-byte word asks for this byte (opcode_table.json). -/
theorem and_mask_code_iff {V : BitVec 16} (a : Byte) : V &&& 0xFF00#16 = a ++ 0#8 ↔ V.extractLsb' 8 8 = a := by
  have hmask : V &&& 0xFF00#16 = V.extractLsb' 8 8 ++ 0#8 := by
    conv_lhs => rw [← append_extract_halves V]
    rw [show 0xFF00#16 = 0xFF#8 ++ 0#8 from rfl, BitVec.and_append, byte_and_ones, BitVec.and_zero]
  rw [hmask]
  exact BitVec.append_left_inj _

theorem wordBytes_four (W : BitVec 32) : wordBytes 4 W.toNat = (Frame.ofWord W).bytes := by
  simp [wordBytes, Frame.ofWord, Frame.bytes, BitVec.extractLsb', Nat.shiftRight_eq_div_pow]

theorem wordBytes_two (V : BitVec 16) : wordBytes 2 V.toNat = [V.extractLsb' 8 8, V.extractLsb' 0 8] := by
  simp [wordBytes, BitVec.extractLsb', Nat.shiftRight_eq_div_pow]

theorem wordBytes_one (B : BitVec 8) : wordBytes 1 B.toNat = [B] := by
  simp [wordBytes]

/-- A frame with command byte a passes the check exactly when its checksum byte is that of a. -/
theorem frameCheck_and_command_iff {f : Frame} {a : Byte} :
    frameCheck f = true ∧ f.command = a ↔ f.command = a ∧ f.checksum = a ^^^ Config.checkMask := by
  rw [frameCheck, beq_iff_eq, and_comm]
  exact and_congr_right fun h => by rw [h]

/-- A 32-bit word is read as a row exactly when its bytes pass the check and meet the row. -/
theorem decodeBytes_request_iff {c : Config} {W : BitVec 32} {i : Instr}
    (hclear : i = .probe → c.ProbeClear := by nofun) :
    decodeBytes c (wordBytes 4 W.toNat) = .ok i ↔
      frameCheck (Frame.ofWord W) = true ∧ requestRow c (Frame.ofWord W) i := by
  rw [wordBytes_four]
  exact decodeRequest_eq_ok_iff hclear

/-- A 16-bit word is read as a row exactly when its two bytes meet the row. -/
theorem decodeBytes_response_iff {c : Config} {V : BitVec 16} {i : Instr}
    (hopen : i.openCode = true → c.Admissible := by nofun) :
    decodeBytes c (wordBytes 2 V.toNat) = .ok i ↔
      responseRow c (V.extractLsb' 8 8) (V.extractLsb' 0 8) i := by
  rw [wordBytes_two, ← decodeResp2_eq_iff hopen]
  exact ⟨Except.ok.inj, congrArg Except.ok⟩

theorem probeOk_eq_true_iff {b : Byte} : probeOk b = true ↔ b = 0x80 := beq_iff_eq

theorem decodeBytes_probeOk_iff {c : Config} {b : Byte} : decodeBytes c [b] = .ok .respProbeOk ↔ b = 0x80 := by
  rw [← probeOk_eq_true_iff]
  show decodeResp1 b = _ ↔ _
  rw [decodeResp1]
  split <;> simp [*]

/-- A row over bytes 0 and 3, as the decoder reads it and as the table writes it (R85): byte 3 is what the check
asks. -/
theorem requestRow_mask_iff {W : BitVec 32} (a : Byte) {p : Prop} :
    frameCheck (Frame.ofWord W) = true ∧ (Frame.ofWord W).command = a ∧ p ↔
      W &&& 0xFF0000FF#32 = a ++ 0#8 ++ 0#8 ++ (a ^^^ Config.checkMask) ∧ p := by
  rw [and_mask_command_checksum_iff, ← and_assoc, frameCheck_and_command_iff]

/-- The rows of the two pushes fix the data byte too. -/
theorem pushRow_mask_iff {W : BitVec 32} (a c : Byte) :
    frameCheck (Frame.ofWord W) = true ∧ (Frame.ofWord W).command = a ∧ (Frame.ofWord W).data = c ↔
      W &&& 0xFF00FFFF#32 = a ++ 0#8 ++ c ++ (a ^^^ Config.checkMask) := by
  rw [and_mask_command_data_checksum_iff, ← and_assoc, frameCheck_and_command_iff, and_assoc,
    and_comm (a := _ = a ^^^ _)]

/-- The row of PROBE is one word, whose checksum is right by itself. -/
theorem probeRow_word_iff {c : Config} {W : BitVec 32} :
    frameCheck (Frame.ofWord W) = true ∧ Frame.ofWord W = probeFrame c ↔
      W = c.probeCmd ++ c.probeLoc ++ c.probeData ++ (c.probeCmd ^^^ 0xFF#8) := by
  rw [← Frame.ofWord_inj, Frame.ofWord_append]
  exact and_iff_right_of_imp fun h => h ▸ frameCheck_frameEncode ..

/-- Settles O9: each row of `decodeRequest_eq_ok_iff` over the bytes of W, its two or three fixed bytes written as a
masked word. -/
theorem requestRowsByMask : Obligations.RequestRowsByMask := by
  intro c W got loc data
  refine ⟨fun l => ?_, fun l => ?_, fun l b => ?_, fun l b => ?_, ?_, ?_, fun hclear => ?_⟩
  · exact (decodeBytes_request_iff).trans (requestRow_mask_iff 0x14)
  · exact (decodeBytes_request_iff).trans (requestRow_mask_iff 0x48)
  · exact (decodeBytes_request_iff).trans (requestRow_mask_iff 0x98)
  · exact (decodeBytes_request_iff).trans (requestRow_mask_iff 0xCA)
  · exact (decodeBytes_request_iff).trans (pushRow_mask_iff 0x57 0x01)
  · exact (decodeBytes_request_iff).trans (pushRow_mask_iff 0x57 0x02)
  · exact (decodeBytes_request_iff fun _ => hclear).trans probeRow_word_iff

/-- Settles O10: each row of `decodeResp2_eq_iff` over the two bytes of V; the two numeric rows have their first byte
written as a masked word, and only the rows of the OPEN codes need a configuration that D11 admits. -/
theorem responseRowsByMask : Obligations.ResponseRowsByMask := by
  intro c V got code low
  refine ⟨fun v => ?_, fun x => ?_,
    fun hadm => ⟨fun x => decodeBytes_response_iff fun _ => hadm, fun x => decodeBytes_response_iff fun _ => hadm,
      fun x => decodeBytes_response_iff fun _ => hadm, fun x => decodeBytes_response_iff fun _ => hadm⟩,
    fun k x => decodeBytes_response_iff, fun B => ?_⟩
  · exact (decodeBytes_response_iff).trans (and_congr_left' (and_mask_code_iff 0xC8).symm)
  · exact (decodeBytes_response_iff).trans (and_congr_left' (and_mask_code_iff 0x81).symm)
  · rw [wordBytes_one, byte_and_ones]
    exact decodeBytes_probeOk_iff

end Sys2Proof
end

section
/-! The Frame Codec: the checksum law in its derived forms (R111), frame_parse (R113), the OPEN codes of
decode_response (R114), and probe_ok (R116). -/

namespace Sys2Proof

/-- Settles O3: adding the check mask is taking the complement, so c and its checksum add up to the byte of all ones. -/
theorem checksumLawForms : Obligations.ChecksumLawForms := by
  intro c l d
  have hnot : c ^^^ 0xFF = ~~~ c := xor_checkMask c
  have hsum : (~~~ c).toNat = 255 - c.toNat := BitVec.toNat_not
  have hc := c.isLt
  refine ⟨frameEncode_checksum c l d, hnot, by rw [hnot, hsum], ?_, ?_, ?_⟩
  · rw [BitVec.xor_assoc, BitVec.xor_self, BitVec.xor_zero]
  · rw [← BitVec.xor_assoc, BitVec.xor_self, BitVec.zero_xor]
  · rw [hnot, hsum]
    omega

theorem frameParse_of_frameCheck {f : Frame} (h : frameCheck f = true) :
    frameParse f = .ok (f.command, f.location, f.data) := if_pos h

/-- A frame that passes is the encoding of its first three bytes (R113). -/
theorem frameEncode_of_frameCheck {f : Frame} (h : frameCheck f = true) :
    frameEncode f.command f.location f.data = f := by
  have hsum : f.checksum = f.command ^^^ Config.checkMask := by simpa [frameCheck] using h
  rw [frameEncode, ← hsum]

/-- Settles O4: encode gives frames that pass, a frame that passes is determined by its first three bytes, and parsing
reads exactly these. -/
theorem frameParseInvertsEncode : Obligations.FrameParseInvertsEncode := by
  refine ⟨fun c l d => ⟨frameCheck_frameEncode c l d, frameParse_of_frameCheck (frameCheck_frameEncode c l d)⟩,
    fun f => frameEncode_of_frameCheck, fun f h => if_neg (by simp [h]), fun c l d c' l' d' h => ?_⟩
  exact ⟨congrArg Frame.command h, congrArg Frame.location h, congrArg Frame.data h⟩

/-- Settles O6: under D11 none of the four codes is taken by a test before its own. -/
theorem openCodesGiveTheirStatus : Obligations.OpenCodesGiveTheirStatus := by
  intro c hadm x
  simp only [Machine.decodeResponse, hadm.openCodes_ne, if_false, if_true, and_self]

/-- Settles O7: probe_ok is the equality, and a single byte is read by probe_ok alone, under whatever configuration. -/
theorem probeOkIsEquality : Obligations.ProbeOkIsEquality :=
  ⟨fun _ => probeOk_eq_true_iff, fun _ _ => decodeBytes_probeOk_iff, fun _ _ hb => if_neg (mt probeOk_eq_true_iff.1 hb)⟩

/-- Settles O11: the decoder evaluates each word without looking at the OPEN parameters. -/
theorem writtenOutWordsDecode : Obligations.WrittenOutWordsDecode :=
  fun _ => ⟨rfl, rfl, rfl, rfl, rfl, rfl, rfl, rfl, rfl⟩

namespace Machine

/-- The six DEV_ values are the STATUS of kind protocol (R253): with OK, what decode_response can answer. -/
theorem mem_verdicts_of_protocol {st : Status} (h : statusKind st = .protocol) :
    st ∈ [Status.ok, .devTimeout, .devChecksum, .devUnrecognized, .devNoReply, .devReplyError, .devOther] := by
  cases st with
  | devTimeout | devChecksum | devUnrecognized | devNoReply | devReplyError | devOther => decide
  | none | ok | ioError | incomplete | timeout | testFailed => cases h

/-- Settles O12: the decoded response runs as the verdict of decode_response, and there are only the two forms of a
verdict; a code without a row of its own has the verdict DEV_OTHER. -/
theorem noFirstByteIsIllegal : Obligations.NoFirstByteIsIllegal := by
  intro s code x hp hcnt hread
  have hdue : resp2Due s = true := resp2Due_iff.2 ⟨hp, hcnt, hread⟩
  refine ⟨decodeResp2 s.cfg.toConfig code x, ?_⟩
  rw [exec_decodeResp2]
  cases hd : decodeResponse s.cfg.toConfig code x with
  | ok v =>
    refine ⟨_, rfl, judgeOk_next_iff.2 ⟨hdue, rfl⟩, by simp, fun hcode => ?_⟩
    rw [decodeResponse_of_notMem_namedCodes hcode] at hd
    cases hd
  | err st =>
    refine ⟨_, rfl, judgeErr_next_iff.2 ⟨hdue, rfl⟩, mem_verdicts_of_protocol (decodeResponse_err hd).2,
      fun hcode => ?_⟩
    rw [decodeResponse_of_notMem_namedCodes hcode] at hd
    cases hd
    rfl

end Machine

end Sys2Proof
end

section
/-! The step of one event, both ways round: `Applied` says what it can do, and every one of its forms is taken (R11,
R180); `Refuses` says when an event has no step, and by which name (R134, R144, R181, R182). -/

namespace Sys2Proof.Machine

theorem writeProgress_settle {k : Nat} {s : State} (h : s.txOff.toNat + k = 4) :
    writeProgress k s = settleEntry (acceptBytes k s) := if_pos h

theorem writeProgress_incomplete {k : Nat} {s : State} (h : s.txOff.toNat + k ≠ 4) (hr : retriesAfter s k = 10) :
    writeProgress k s = raise .incomplete (disarm (acceptBytes k s)) := (if_neg h).trans (if_pos hr)

theorem writeProgress_part {k : Nat} {s : State} (h : s.txOff.toNat + k ≠ 4) (hr : retriesAfter s k ≠ 10) :
    writeProgress k s = acceptBytes k s := (if_neg h).trans (if_neg hr)

/-- An answer within what was offered is progress of the write (R134, R135). -/
theorem applyEvent_txAns {k : Nat} {s : State} (hp : s.phase = .tx) (hk : s.txOff.toNat + k ≤ 4) :
    applyEvent (.txAns k) s = .next (writeProgress k s) := txAns_next_iff.2 ⟨hp, hk, rfl⟩

theorem applyEvent_tick_settle {s : State} (hp : s.phase = .settle) : applyEvent .tick s = .next (settleTick s) :=
  tick_next_iff.2 (.inr (.inr ⟨hp, rfl⟩))

theorem settleTick_ok {s : State} (hc : s.sCnt.toNat + 1 = 200) (hl : s.rxLen = 0) : settleTick s = raise .ok s :=
  (if_pos hc).trans (if_pos hl)

theorem settleTick_readExactEntry {s : State} (hc : s.sCnt.toNat + 1 = 200) (hl : s.rxLen ≠ 0) :
    settleTick s = readExactEntry s := (if_pos hc).trans (if_neg hl)

theorem settleTick_count {s : State} (hc : s.sCnt.toNat + 1 ≠ 200) :
    settleTick s = { s with sCnt := BitVec.ofNat 8 (s.sCnt.toNat + 1) } := if_neg hc

/-- Every form of `Applied` is the step of its event: together with `applyEvent_applied`, the step is these forms. -/
theorem Applied.applyEvent_eq {s t : State} {e : Event} (h : Applied s e t) : applyEvent e s = .next t := by
  cases h with
  | start hp ho => exact startEvent_next_iff.2 ⟨hp, _, ho, rfl⟩
  | cfgWait hp hv => exact cfgWait_next_iff.2 ⟨hp, hv, rfl⟩
  | txDone hp hk => rw [applyEvent_txAns hp hk.le, writeProgress_settle hk]
  | txIncomplete hp hk hr => rw [applyEvent_txAns hp hk.le, writeProgress_incomplete hk.ne hr]
  | txPart hp hk hr => rw [applyEvent_txAns hp hk.le, writeProgress_part hk.ne hr]
  | txErr hp => exact step_txErr hp
  | @rxOk bs hp hk hread hb =>
    have hdue : resp2Due (disarm (deliverBytes bs s)) = true :=
      resp2Due_iff.2 ⟨hp, deliverBytes_rxCnt_eq_rxLen hk, hread⟩
    exact (step_rxAns_complete hp hk).trans (judge_read_ok hdue (decodeResponse_ok_iff.2 ⟨hb, rfl⟩))
  | @rxDev bs hp hk hread st _ _ hd =>
    have hdue : resp2Due (disarm (deliverBytes bs s)) = true :=
      resp2Due_iff.2 ⟨hp, deliverBytes_rxCnt_eq_rxLen hk, hread⟩
    exact (step_rxAns_complete hp hk).trans (judge_read_err hdue hd)
  | @rxProbe bs hp hk hprobe =>
    have hdue : resp1Due (disarm (deliverBytes bs s)) = true :=
      resp1Due_iff.2 ⟨hp, deliverBytes_rxCnt_eq_rxLen hk, hprobe⟩
    exact (step_rxAns_complete hp hk).trans (judge_probe_due hdue)
  | rxIncomplete hp hk hr => exact (step_rxAns hp hk.le).trans (readProgress_incomplete hk.ne hr)
  | rxPart hp hk hr => exact (step_rxAns hp hk.le).trans (readProgress_part hk.ne hr)
  | rxErr hp => exact step_rxErr hp
  | tickIdle hp => exact tick_next_iff.2 (.inl ⟨hp, rfl⟩)
  | tickTimeout hp hg => exact tick_timeout hp hg
  | tickGuard hp hg => exact tick_count hp hg
  | tickOk hp hc hl => rw [applyEvent_tick_settle hp, settleTick_ok hc hl]
  | tickRead hp hc hl => exact tick_readExactEntry hp hc hl
  | tickSettle hp hc => rw [applyEvent_tick_settle hp, settleTick_count hc]
  | reset => rfl

/-! ## What has no step -/

/-- When an event has no step, and the name by which the model refuses it (U1 to U4). -/
inductive Refuses (s : State) : Event → Refusal → Prop where
  | reserved {sel : BitVec 3} {loc data : Byte} (ho : opOfSelector sel = none) :
      Refuses s (.start sel loc data) .reservedSelector
  | busy {sel : BitVec 3} {loc data : Byte} {op : Op} (ho : opOfSelector sel = some op) (hp : s.phase ≠ .idle) :
      Refuses s (.start sel loc data) .startWhileBusy
  | cfgZero (hp : s.phase = .idle) : Refuses s (.cfgWait 0) .cfgWaitZero
  | cfgBusy {v : Word32} (hp : s.phase ≠ .idle) : Refuses s (.cfgWait v) .cfgWaitWhileBusy
  | txAns {k : Nat} (hp : s.phase ≠ .tx) : Refuses s (.txAns k) .noWriteAttempt
  | txTooLong {k : Nat} (hp : s.phase = .tx) (hk : 4 < s.txOff.toNat + k) : Refuses s (.txAns k) .writeAnswerTooLong
  | txErr (hp : s.phase ≠ .tx) : Refuses s .txErr .noWriteAttempt
  | rxAns {bs : List Byte} (hp : s.phase ≠ .rx) : Refuses s (.rxAns bs) .noReadAttempt
  | rxTooLong {bs : List Byte} (hp : s.phase = .rx) (hk : s.rxLen.toNat < s.rxCnt.toNat + bs.length) :
      Refuses s (.rxAns bs) .readAnswerTooLong
  | rxErr (hp : s.phase ≠ .rx) : Refuses s .rxErr .noReadAttempt

theorem cfgWait_busy {s : State} (hp : s.phase ≠ .idle) (v : Word32) : cfgWait v s = .refused .cfgWaitWhileBusy := by
  rw [cfgWait]
  cases h : s.phase with
  | idle => exact absurd h hp
  | tx | settle | rx => rfl

theorem cfgWait_zero {s : State} (hp : s.phase = .idle) : cfgWait 0 s = .refused .cfgWaitZero := by
  rw [cfgWait, hp]
  rfl

theorem txAns_tooLong {s : State} {k : Nat} (hp : s.phase = .tx) (hk : 4 < s.txOff.toNat + k) :
    txAns k s = .refused .writeAnswerTooLong := by
  rw [txAns, hp]
  exact if_neg hk.not_ge

theorem rxAns_refused {s : State} (hp : s.phase ≠ .rx) (bs : List Byte) : rxAns bs s = .refused .noReadAttempt := by
  rw [rxAns]
  cases h : s.phase with
  | rx => exact absurd h hp
  | idle | tx | settle => rfl

theorem rxAns_tooLong {s : State} {bs : List Byte} (hp : s.phase = .rx)
    (hk : s.rxLen.toNat < s.rxCnt.toNat + bs.length) : rxAns bs s = .refused .readAnswerTooLong := by
  rw [rxAns, hp]
  exact if_neg hk.not_ge

theorem Refuses.applyEvent_eq {s : State} {e : Event} {r : Refusal} (h : Refuses s e r) :
    applyEvent e s = .refused r := by
  cases h with
  | reserved ho => rw [applyEvent, startEvent, decodeStart, ho]; rfl
  | busy ho hp => rw [applyEvent, startEvent_busy hp, ho]; rfl
  | cfgZero hp => exact cfgWait_zero hp
  | cfgBusy hp => exact cfgWait_busy hp _
  | txAns hp => exact step_txAns_refused hp _
  | txTooLong hp hk => exact txAns_tooLong hp hk
  | txErr hp => exact step_txErr_refused hp
  | rxAns hp => exact rxAns_refused hp _
  | rxTooLong hp hk => exact rxAns_tooLong hp hk
  | rxErr hp => exact step_rxErr_refused hp

/-- A response that read_exact has delivered whole is judged: the judgement refuses nothing (R178, R88). -/
theorem exists_applied_rxAns {s : State} {bs : List Byte} (hp : s.phase = .rx)
    (hk : s.rxCnt.toNat + bs.length = s.rxLen.toNat) : ∃ t, Applied s (.rxAns bs) t := by
  cases hread : isReadOp s.curOp with
  | false => exact ⟨_, .rxProbe hp hk hread⟩
  | true =>
    cases hd : decodeResponse s.cfg.toConfig (deliverBytes bs s).rb.b0 (deliverBytes bs s).rb.b1 with
    | ok v => exact ⟨_, .rxOk hp hk hread (decodeResponse_ok_iff.1 hd).1⟩
    | err st => exact ⟨_, .rxDev hp hk hread st (decodeResponse_err hd).2 (decodeResponse_err hd).1 hd⟩

theorem exists_applied_rxAns_of_le {s : State} {bs : List Byte} (hp : s.phase = .rx)
    (hk : s.rxCnt.toNat + bs.length ≤ s.rxLen.toNat) : ∃ t, Applied s (.rxAns bs) t := by
  rcases Nat.lt_or_eq_of_le hk with hk | hk
  · by_cases hr : retriesAfter s bs.length = 10
    · exact ⟨_, .rxIncomplete hp hk hr⟩
    · exact ⟨_, .rxPart hp hk hr⟩
  · exact exists_applied_rxAns hp hk

theorem exists_applied_txAns {s : State} {k : Nat} (hp : s.phase = .tx) (hk : s.txOff.toNat + k ≤ 4) :
    ∃ t, Applied s (.txAns k) t := ⟨_, applyEvent_applied (applyEvent_txAns hp hk)⟩

/-- TICK has a step in every phase (R11, R152). -/
theorem exists_applied_tick (s : State) : ∃ t, Applied s .tick t := by
  cases hp : s.phase with
  | idle => exact ⟨_, .tickIdle hp⟩
  | tx => exact ⟨_, applyEvent_applied (tick_next_iff.2 (.inr (.inl ⟨.inl hp, rfl⟩)))⟩
  | rx => exact ⟨_, applyEvent_applied (tick_next_iff.2 (.inr (.inl ⟨.inr hp, rfl⟩)))⟩
  | settle => exact ⟨_, applyEvent_applied (applyEvent_tick_settle hp)⟩

/-- Every event has a step or is refused by one of the names of `Refuses`. -/
theorem applied_or_refuses (s : State) (e : Event) : (∃ t, Applied s e t) ∨ ∃ r, Refuses s e r := by
  cases e with
  | start sel loc data =>
    cases ho : opOfSelector sel with
    | none => exact .inr ⟨_, .reserved ho⟩
    | some op =>
      by_cases hp : s.phase = .idle
      · exact .inl ⟨_, .start hp ho⟩
      · exact .inr ⟨_, .busy ho hp⟩
  | cfgWait v =>
    by_cases hp : s.phase = .idle
    · by_cases hv : v = 0
      · subst hv
        exact .inr ⟨_, .cfgZero hp⟩
      · exact .inl ⟨_, .cfgWait hp hv⟩
    · exact .inr ⟨_, .cfgBusy hp⟩
  | txAns k =>
    by_cases hp : s.phase = .tx
    · by_cases hk : s.txOff.toNat + k ≤ 4
      · exact .inl (exists_applied_txAns hp hk)
      · exact .inr ⟨_, .txTooLong hp (by omega)⟩
    · exact .inr ⟨_, .txAns hp⟩
  | txErr =>
    by_cases hp : s.phase = .tx
    · exact .inl ⟨_, .txErr hp⟩
    · exact .inr ⟨_, .txErr hp⟩
  | rxAns bs =>
    by_cases hp : s.phase = .rx
    · by_cases hk : s.rxCnt.toNat + bs.length ≤ s.rxLen.toNat
      · exact .inl (exists_applied_rxAns_of_le hp hk)
      · exact .inr ⟨_, .rxTooLong hp (by omega)⟩
    · exact .inr ⟨_, .rxAns hp⟩
  | rxErr =>
    by_cases hp : s.phase = .rx
    · exact .inl ⟨_, .rxErr hp⟩
    · exact .inr ⟨_, .rxErr hp⟩
  | tick => exact .inl (exists_applied_tick s)
  | reset => exact .inl ⟨_, .reset⟩

theorem applyEvent_refused_iff {s : State} {e : Event} {r : Refusal} :
    applyEvent e s = .refused r ↔ Refuses s e r := by
  refine ⟨fun h => ?_, Refuses.applyEvent_eq⟩
  rcases applied_or_refuses s e with ⟨t, ht⟩ | ⟨r', hr'⟩
  · rw [ht.applyEvent_eq] at h
    cases h
  · rw [hr'.applyEvent_eq] at h
    cases h
    exact hr'

/-! ## The step with one event in front of the inputs -/

theorem Applied.step_feed {s t : State} {e : Event} (h : Applied s e t) : step (feed [e] s) = .next t :=
  h.applyEvent_eq

theorem Refuses.step_feed {s : State} {e : Event} {r : Refusal} (h : Refuses s e r) : step (feed [e] s) = .refused r :=
  h.applyEvent_eq

end Sys2Proof.Machine
end

section
/-! Legal states (R34, R25, R29, R87): what each says of its counters, the counters after an answer, and that every
step keeps them. -/

namespace Sys2Proof.Machine

/-! ## The counters after an answer -/

theorem retriesAfter_zero (s : State) : retriesAfter s 0 = s.retries.toNat + 1 := rfl

theorem retriesAfter_pos (s : State) {k : Nat} (hk : k ≠ 0) : retriesAfter s k = s.retries.toNat := by
  rw [retriesAfter, if_neg hk, Nat.add_zero]

theorem retriesAfter_le (s : State) (k : Nat) : retriesAfter s k ≤ s.retries.toNat + 1 := by
  rw [retriesAfter]
  split <;> omega

/-- A count within the frame fits TX_OFF (R24). -/
theorem acceptBytes_txOff_toNat {s : State} {k : Nat} (hk : s.txOff.toNat + k ≤ 4) :
    (acceptBytes k s).txOff.toNat = s.txOff.toNat + k := Nat.mod_eq_of_lt (by omega)

theorem acceptBytes_retries_toNat {s : State} (hr : s.retries.toNat < 10) (k : Nat) :
    (acceptBytes k s).retries.toNat = retriesAfter s k :=
  Nat.mod_eq_of_lt (by have := retriesAfter_le s k; omega)

/-- A count within the response fits RX_CNT (R25). -/
theorem deliverBytes_rxCnt_toNat {s : State} {bs : List Byte} (hk : s.rxCnt.toNat + bs.length ≤ s.rxLen.toNat) :
    (deliverBytes bs s).rxCnt.toNat = s.rxCnt.toNat + bs.length :=
  Nat.mod_eq_of_lt (by have := s.rxLen.isLt; omega)

theorem deliverBytes_retries_toNat {s : State} (hr : s.retries.toNat < 10) (bs : List Byte) :
    (deliverBytes bs s).retries.toNat = retriesAfter s bs.length :=
  Nat.mod_eq_of_lt (by have := retriesAfter_le s bs.length; omega)

theorem toNat_pos_of_ne_zero {w : Nat} {x : BitVec w} (h : x ≠ 0) : 0 < x.toNat :=
  Nat.pos_of_ne_zero fun h0 => h (BitVec.eq_of_toNat_eq (h0.trans BitVec.toNat_zero.symm))

/-! ## What a legal state says -/

section
variable {s : State} (h : Legal s)
include h

theorem Legal.txOff_le : s.txOff.toNat ≤ 4 := by
  obtain ⟨⟨-, ⟨hle, -⟩, -⟩, -⟩ := h
  exact hle

theorem Legal.txOff_lt (hp : s.phase = .tx) : s.txOff.toNat < 4 := by
  obtain ⟨⟨-, ⟨-, htx, -⟩, -⟩, -⟩ := h
  exact htx hp

theorem Legal.txOff_eq (hp : s.phase = .settle ∨ s.phase = .rx) : s.txOff.toNat = 4 := by
  obtain ⟨⟨-, ⟨-, -, hdone⟩, -⟩, -⟩ := h
  exact hdone hp

theorem Legal.rxCnt_le : s.rxCnt.toNat ≤ s.rxLen.toNat := by
  obtain ⟨⟨-, -, ⟨hle, -⟩, -⟩, -⟩ := h
  exact hle

theorem Legal.rxLen_le : s.rxLen.toNat ≤ 2 := by
  obtain ⟨⟨-, -, ⟨-, hle, -⟩, -⟩, -⟩ := h
  exact hle

theorem Legal.rxCnt_lt (hp : s.phase = .rx) : s.rxCnt.toNat < s.rxLen.toNat := by
  obtain ⟨⟨-, -, ⟨-, -, hrx⟩, -⟩, -⟩ := h
  exact (hrx hp).2

theorem Legal.retries_le : s.retries.toNat ≤ 10 := by
  obtain ⟨⟨-, -, -, ⟨hle, -⟩, -⟩, -⟩ := h
  exact hle

theorem Legal.retries_lt (hp : s.phase = .tx ∨ s.phase = .rx) : s.retries.toNat < 10 := by
  obtain ⟨⟨-, -, -, ⟨-, hlt⟩, -⟩, -⟩ := h
  exact hlt hp

theorem Legal.gCnt_lt (hp : s.phase = .tx ∨ s.phase = .rx) : s.gCnt.toNat < s.wait.toNat := by
  have harmed := h.gArmed_eq_true hp
  obtain ⟨⟨-, -, -, -, hcount, -⟩, -⟩ := h
  exact hcount harmed

theorem Legal.sCnt_lt (hp : s.phase = .settle) : s.sCnt.toNat < 200 := by
  obtain ⟨⟨-, -, -, -, -, hcount, -⟩, -⟩ := h
  exact hcount hp

theorem Legal.gArmed_eq_false (hp : s.phase = .idle ∨ s.phase = .settle) : s.gArmed = false := by
  obtain ⟨⟨hguard, -⟩, -⟩ := h
  refine Bool.eq_false_iff.2 fun harmed => ?_
  rcases hp with hp | hp <;> rcases hguard.1 harmed with h' | h' <;> simp [hp] at h'

theorem Legal.wait_pos : 1 ≤ s.wait.toNat := by
  obtain ⟨-, hwait, -⟩ := h
  exact hwait

end

/-- What an operation in flight carries unchanged from START to its completion (R22, R23, R25), with WAIT and STATUS,
which nothing writes meanwhile. -/
structure SameOperation (s t : State) : Prop where
  curOp : t.curOp = s.curOp
  fr : t.fr = s.fr
  rxLen : t.rxLen = s.rxLen
  status : t.status = s.status
  wait : t.wait = s.wait
  cfg : t.cfg = s.cfg

/-- The clauses of a legal state that speak of the operation in flight stay when the operation does. -/
theorem Legal.of_sameOperation {s t : State} (h : Legal s) (hs : s.phase ≠ .idle) (hsame : SameOperation s t)
    (hguard : invGuard t) (hoff : invTxOff t) (hcnt : invRxCnt t) (hret : invRetries t) (hgcnt : invGuardCount t)
    (hscnt : invSettleCount t) : Legal t := by
  obtain ⟨hop, hfr, hlen, hst, hwait, hcfg⟩ := hsame
  obtain ⟨⟨-, -, -, -, -, -, hflight⟩, hw, hl, hframe⟩ := h
  refine ⟨⟨hguard, hoff, hcnt, hret, hgcnt, hscnt, fun _ => ?_⟩, ?_, fun _ => ?_, fun _ => ?_⟩
  · rw [hfr, hst]
    exact hflight hs
  · rw [invWait, hwait]
    exact hw
  · rw [hlen, hop]
    exact hl hs
  · rw [hfr, hcfg, hop]
    exact hframe hs

theorem Legal.of_tx {s t : State} (h : Legal s) (hs : s.phase ≠ .idle) (hsame : SameOperation s t) (hp : t.phase = .tx)
    (harmed : t.gArmed = true) (hoff : t.txOff.toNat < 4) (hcnt : t.rxCnt.toNat ≤ t.rxLen.toNat)
    (hret : t.retries.toNat < 10) (hg : t.gCnt.toNat < t.wait.toNat) : Legal t := by
  have hlen : t.rxLen.toNat ≤ 2 := hsame.rxLen ▸ h.rxLen_le
  refine h.of_sameOperation hs hsame (iff_of_true harmed (.inl hp)) ⟨hoff.le, fun _ => hoff, ?_⟩ ⟨hcnt, hlen, ?_⟩
    ⟨hret.le, fun _ => hret⟩ (fun _ => hg) ?_
  all_goals simp [invSettleCount, hp]

theorem Legal.of_settle {s t : State} (h : Legal s) (hs : s.phase ≠ .idle) (hsame : SameOperation s t)
    (hp : t.phase = .settle) (harmed : t.gArmed = false) (hoff : t.txOff.toNat = 4)
    (hcnt : t.rxCnt.toNat ≤ t.rxLen.toNat) (hret : t.retries.toNat ≤ 10) (hc : t.sCnt.toNat < 200) : Legal t := by
  have hlen : t.rxLen.toNat ≤ 2 := hsame.rxLen ▸ h.rxLen_le
  refine h.of_sameOperation hs hsame ?_ ⟨hoff.le, ?_, fun _ => hoff⟩ ⟨hcnt, hlen, ?_⟩ ⟨hret, ?_⟩ ?_ (fun _ => hc)
  all_goals simp [invGuard, invGuardCount, hp, harmed]

theorem Legal.of_rx {s t : State} (h : Legal s) (hs : s.phase ≠ .idle) (hsame : SameOperation s t) (hp : t.phase = .rx)
    (harmed : t.gArmed = true) (hoff : t.txOff.toNat = 4) (hcnt : t.rxCnt.toNat < t.rxLen.toNat)
    (hret : t.retries.toNat < 10) (hg : t.gCnt.toNat < t.wait.toNat) : Legal t := by
  have hlen : t.rxLen.toNat ≤ 2 := hsame.rxLen ▸ h.rxLen_le
  refine h.of_sameOperation hs hsame (iff_of_true harmed (.inr hp)) ⟨hoff.le, ?_, fun _ => hoff⟩
    ⟨hcnt.le, hlen, fun _ => ⟨Nat.one_le_of_lt hcnt, hcnt⟩⟩ ⟨hret.le, fun _ => hret⟩ (fun _ => hg) ?_
  all_goals simp [invSettleCount, hp]

/-- A state in PHASE IDLE is legal when its counters are in their ranges and the guard is off. -/
theorem legal_of_idle {t : State} (hp : t.phase = .idle) (hg : t.gArmed = false) (hoff : t.txOff.toNat ≤ 4)
    (hcnt : t.rxCnt.toNat ≤ t.rxLen.toNat) (hlen : t.rxLen.toNat ≤ 2) (hret : t.retries.toNat ≤ 10)
    (hwait : 1 ≤ t.wait.toNat) : Legal t := by
  refine ⟨⟨?_, ⟨hoff, ?_, ?_⟩, ⟨hcnt, hlen, ?_⟩, ⟨hret, ?_⟩, ?_, ?_, ?_⟩, hwait, ?_, ?_⟩
  all_goals simp [invGuard, invGuardCount, invSettleCount, invInFlight, invRxLen, invFrame, hp, hg]

/-! ## Every form of a step -/

/-- The completion rule leads from a legal state to a legal state: it clears the guard and goes back to IDLE (R246). -/
theorem Legal.ended {s : State} (h : Legal s) (st : Status) (v : Byte) (m : Nat) : Legal (ended st v m s) :=
  legal_of_idle rfl rfl h.txOff_le h.rxCnt_le h.rxLen_le h.retries_le h.wait_pos

/-- The completion rule after an answer to a write. -/
theorem Legal.ended_acceptBytes {s : State} (h : Legal s) (hp : s.phase = .tx) {k : Nat} (hk : s.txOff.toNat + k ≤ 4)
    (st : Status) (v : Byte) (m : Nat) : Legal (Machine.ended st v m (acceptBytes k s)) := by
  have hoff := acceptBytes_txOff_toNat hk
  have hret := acceptBytes_retries_toNat (h.retries_lt (.inl hp)) k
  have hle := retriesAfter_le s k
  have hlt := h.retries_lt (.inl hp)
  exact legal_of_idle rfl rfl (hoff.trans_le hk) h.rxCnt_le h.rxLen_le (hret.trans_le (by omega)) h.wait_pos

/-- The completion rule after an answer to a read. -/
theorem Legal.ended_deliverBytes {s : State} (h : Legal s) (hp : s.phase = .rx) {bs : List Byte}
    (hk : s.rxCnt.toNat + bs.length ≤ s.rxLen.toNat) (st : Status) (v : Byte) (m : Nat) :
    Legal (Machine.ended st v m (deliverBytes bs s)) := by
  have hcnt := deliverBytes_rxCnt_toNat hk
  have hret := deliverBytes_retries_toNat (h.retries_lt (.inr hp)) bs
  have hle := retriesAfter_le s bs.length
  have hlt := h.retries_lt (.inr hp)
  exact legal_of_idle rfl rfl h.txOff_le (hcnt.trans_le hk) h.rxLen_le (hret.trans_le (by omega)) h.wait_pos

/-- START enters write_all with the frame of its operation, whatever the state was (R170, R133). -/
theorem Legal.started {s : State} (h : Legal s) (op : Op) (loc data : Byte) (v : Byte) (m : Nat) :
    Legal (started op (frameOf s.cfg.toConfig op loc data) (rxLenOf op) v m s) := by
  have hw := h.wait_pos
  have hlen := rxLenOf_le op
  refine ⟨⟨?_, ?_, ?_, ?_, fun _ => hw, nofun, fun _ => ⟨frameOf_checksum .., rfl⟩⟩, hw, fun _ => rfl,
    fun _ => ⟨loc, data, rfl⟩⟩
  · simp [invGuard, Machine.started]
  · simp [invTxOff, Machine.started]
  · simpa [invRxCnt, Machine.started] using hlen
  · simp [invRetries, Machine.started]

/-- An answer that leaves the write going (R135). -/
theorem Legal.acceptBytes {s : State} (h : Legal s) (hp : s.phase = .tx) {k : Nat} (hk : s.txOff.toNat + k < 4)
    (hr : retriesAfter s k ≠ 10) : Legal (acceptBytes k s) := by
  have hlt := h.retries_lt (.inl hp)
  have hle := retriesAfter_le s k
  refine h.of_tx (by simp [hp]) ⟨rfl, rfl, rfl, rfl, rfl, rfl⟩ hp (h.gArmed_eq_true (.inl hp)) ?_ h.rxCnt_le ?_
    (h.gCnt_lt (.inl hp))
  · rwa [acceptBytes_txOff_toNat hk.le]
  · rw [acceptBytes_retries_toNat hlt]
    omega

/-- The answer that completes the write (R135, R141). -/
theorem Legal.settleEntry_acceptBytes {s : State} (h : Legal s) (hp : s.phase = .tx) {k : Nat}
    (hk : s.txOff.toNat + k = 4) : Legal (settleEntry (Machine.acceptBytes k s)) := by
  have hlt := h.retries_lt (.inl hp)
  have hle := retriesAfter_le s k
  refine h.of_settle (by simp [hp]) ⟨rfl, rfl, rfl, rfl, rfl, rfl⟩ rfl rfl ?_ h.rxCnt_le ?_ (by simp)
  · rwa [settleEntry_txOff, acceptBytes_txOff_toNat hk.le]
  · rw [settleEntry_retries, acceptBytes_retries_toNat hlt]
    omega

/-- An answer that leaves the read going (R146). -/
theorem Legal.deliverBytes {s : State} (h : Legal s) (hp : s.phase = .rx) {bs : List Byte}
    (hk : s.rxCnt.toNat + bs.length < s.rxLen.toNat) (hr : retriesAfter s bs.length ≠ 10) :
    Legal (deliverBytes bs s) := by
  have hlt := h.retries_lt (.inr hp)
  have hle := retriesAfter_le s bs.length
  refine h.of_rx (by simp [hp]) ⟨rfl, rfl, rfl, rfl, rfl, rfl⟩ hp (h.gArmed_eq_true (.inr hp)) (h.txOff_eq (.inr hp)) ?_
    ?_ (h.gCnt_lt (.inr hp))
  · rwa [deliverBytes_rxCnt_toNat hk.le]
  · rw [deliverBytes_retries_toNat hlt]
    omega

/-- The TICK that ends the settle delay of an operation with a response (R142, R145). -/
theorem Legal.readExactEntry {s : State} (h : Legal s) (hp : s.phase = .settle) (hl : s.rxLen ≠ 0) :
    Legal (readExactEntry s) := by
  exact h.of_rx (by simp [hp]) ⟨rfl, rfl, rfl, rfl, rfl, rfl⟩ rfl rfl (h.txOff_eq (.inl hp)) (toNat_pos_of_ne_zero hl)
    (by simp) h.wait_pos

/-- A TICK that only counts for the guard (R140, R151). -/
theorem Legal.guardCounted {s : State} (h : Legal s) (hp : s.phase = .tx ∨ s.phase = .rx)
    (hg : s.gCnt.toNat + 1 ≠ s.wait.toNat) :
    Legal { s with gCnt := BitVec.ofNat 32 (s.gCnt.toNat + 1) } := by
  have hlt := h.gCnt_lt hp
  have hw := s.wait.isLt
  have hcnt : (BitVec.ofNat 32 (s.gCnt.toNat + 1)).toNat < s.wait.toNat := by
    rw [BitVec.toNat_ofNat, Nat.mod_eq_of_lt (by omega)]
    omega
  rcases hp with hp | hp
  · exact h.of_tx (by simp [hp]) ⟨rfl, rfl, rfl, rfl, rfl, rfl⟩ hp (h.gArmed_eq_true (.inl hp)) (h.txOff_lt hp)
      h.rxCnt_le (h.retries_lt (.inl hp)) hcnt
  · exact h.of_rx (by simp [hp]) ⟨rfl, rfl, rfl, rfl, rfl, rfl⟩ hp (h.gArmed_eq_true (.inr hp)) (h.txOff_eq (.inr hp))
      (h.rxCnt_lt hp) (h.retries_lt (.inr hp)) hcnt

/-- A TICK that only counts for the settle delay (R142). -/
theorem Legal.settleCounted {s : State} (h : Legal s) (hp : s.phase = .settle) (hc : s.sCnt.toNat + 1 ≠ 200) :
    Legal { s with sCnt := BitVec.ofNat 8 (s.sCnt.toNat + 1) } := by
  have hlt := h.sCnt_lt hp
  have hcnt : (BitVec.ofNat 8 (s.sCnt.toNat + 1)).toNat < 200 := by
    rw [BitVec.toNat_ofNat, Nat.mod_eq_of_lt (by omega)]
    omega
  exact h.of_settle (by simp [hp]) ⟨rfl, rfl, rfl, rfl, rfl, rfl⟩ hp (h.gArmed_eq_false (.inr hp))
    (h.txOff_eq (.inl hp)) h.rxCnt_le h.retries_le hcnt

/-- CFG_WAIT with a value it takes (R29, R182). -/
theorem Legal.cfgWait {s : State} (h : Legal s) (hp : s.phase = .idle) {v : Word32} (hv : v ≠ 0) :
    Legal { s with wait := v } := by
  exact legal_of_idle hp (h.gArmed_eq_false (.inl hp)) h.txOff_le h.rxCnt_le h.rxLen_le h.retries_le
    (toNat_pos_of_ne_zero hv)

theorem one_le_waitDefault : 1 ≤ (BitVec.ofNat 32 Config.waitDefault).toNat := by decide

/-- RESET leads to a legal state from any state whatever (R280). -/
theorem legal_resetBlock (s : State) : Legal (resetBlock s) :=
  legal_of_idle rfl rfl (by simp) (by simp) (by simp) (by simp) one_le_waitDefault

/-- Every form of a step leads from a legal state to a legal state. -/
theorem Applied.legal {s t : State} {e : Event} (h : Applied s e t) (hs : Legal s) : Legal t := by
  cases h with
  | start => exact hs.started ..
  | cfgWait hp hv => exact hs.cfgWait hp hv
  | txDone hp hk => exact hs.settleEntry_acceptBytes hp hk
  | txIncomplete hp hk => exact hs.ended_acceptBytes hp hk.le ..
  | txPart hp hk hr => exact hs.acceptBytes hp hk hr
  | rxOk hp hk | rxDev hp hk | rxProbe hp hk => exact hs.ended_deliverBytes hp hk.le ..
  | rxIncomplete hp hk => exact hs.ended_deliverBytes hp hk.le ..
  | rxPart hp hk hr => exact hs.deliverBytes hp hk hr
  | txErr | rxErr | tickTimeout | tickOk => exact hs.ended ..
  | tickIdle => exact hs
  | tickGuard hp hg => exact hs.guardCounted hp hg
  | tickRead hp _ hl => exact hs.readExactEntry hp hl
  | tickSettle hp hc => exact hs.settleCounted hp hc
  | reset => exact legal_resetBlock s

/-- Settles O38: being legal does not depend on the inputs still to come, and each form of a step keeps it. -/
theorem stepKeepsInv : Obligations.StepKeepsInv := by
  intro s t hs h
  obtain ⟨e, rest, -, happlied⟩ := step_applied h
  exact happlied.legal (s := s.withInputs rest) hs

/-- Settles O39: after reset, as after RESET, the block is in PHASE IDLE with every counter 0 and WAIT 10000. -/
theorem resetMeetsInv : Obligations.ResetMeetsInv :=
  ⟨legal_of_idle rfl rfl (by simp) (by simp) (by simp) (by simp) one_le_waitDefault, legal_resetBlock⟩

end Sys2Proof.Machine
end

section
/-! Where VALUE means something (R31, D13), and that it is the response's data byte there (R178). -/

namespace Sys2Proof.Machine

theorem valueDefined_iff {s : State} :
    valueDefined s = true ↔ s.phase = .idle ∧
      (isReadOp s.curOp = true ∧ s.status = .ok ∨ s.curOp = .probe ∧ (s.status = .ok ∨ s.status = .testFailed)) := by
  simp [valueDefined]

theorem valueDefined_of_busy {s : State} (hp : s.phase ≠ .idle) : valueDefined s = false :=
  Bool.eq_false_iff.2 fun hv => hp (valueDefined_iff.1 hv).1

/-- VALUE means nothing after a STATUS other than the two that write it (R31). -/
theorem valueDefined_of_status {s : State} (hok : s.status ≠ .ok) (htest : s.status ≠ .testFailed) :
    valueDefined s = false := by
  refine Bool.eq_false_iff.2 fun hv => ?_
  obtain ⟨-, ⟨-, h⟩ | ⟨-, h | h⟩⟩ := valueDefined_iff.1 hv
  · exact hok h
  · exact hok h
  · exact htest h

/-- VALUE means nothing after an operation without a response (R31). -/
theorem valueDefined_of_rxLenOf {s : State} (hl : rxLenOf s.curOp = 0) : valueDefined s = false := by
  refine Bool.eq_false_iff.2 fun hv => ?_
  obtain ⟨-, ⟨hread, -⟩ | ⟨hprobe, -⟩⟩ := valueDefined_iff.1 hv
  · rw [rxLenOf_read hread] at hl
    cases hl
  · rw [hprobe] at hl
    cases hl

theorem invValue_of_undefined {s : State} (h : valueDefined s = false) : InvValue s := by
  intro hv
  rw [h] at hv
  cases hv

theorem Legal.rxLenOf_eq_zero {s : State} (h : Legal s) (hp : s.phase ≠ .idle) (hl : s.rxLen = 0) :
    rxLenOf s.curOp = 0 := (h.rxLen_eq_rxLenOf hp).symm.trans hl

theorem Legal.curOp_eq_probe {s : State} (h : Legal s) (hp : s.phase = .rx) (hread : isReadOp s.curOp = false) :
    s.curOp = .probe := by
  cases hop : s.curOp with
  | probe => rfl
  | readReg | readEeprom => rw [hop] at hread; cases hread
  | writeReg | writeEeprom | shortPush | longPush => exact absurd hp (h.phase_ne_rx (by rw [hop]; rfl))

/-- A read judged OK has C8 in RB[0] and RB[1] in VALUE (R114, R178). -/
theorem invValue_read {s : State} (hread : isReadOp s.curOp = true) (hb : s.rb.b0 = Config.successMark) :
    InvValue (raiseWithValue .ok s.rb.b1 s) := by
  refine fun _ => ⟨fun _ => ⟨hb, rfl⟩, fun hprobe => ?_⟩
  rw [show s.curOp = .probe from hprobe] at hread
  cases hread

/-- A PROBE judged has its byte in VALUE, and is OK exactly when the byte is 80 (R116, R178). -/
theorem invValue_probe {s : State} (hread : isReadOp s.curOp = false) :
    InvValue (raiseWithValue (if probeOk s.rb.b0 then .ok else .testFailed) s.rb.b0 s) := by
  refine fun _ => ⟨fun h => ?_, fun _ => ⟨rfl, ?_⟩⟩
  · rw [show isReadOp s.curOp = true from h] at hread
    cases hread
  · rw [raiseWithValue_status, raiseWithValue_rb, ← probeOk_eq_true_iff]
    split <;> simp [*]

/-- A failure of kind protocol is neither of the STATUS that write VALUE. -/
theorem valueDefined_raise_protocol {st : Status} (hk : statusKind st = .protocol) (s : State) :
    valueDefined (raise st s) = false := by
  refine valueDefined_of_status ?_ ?_ <;> rintro rfl <;> cases hk

theorem Applied.invValue {s t : State} {e : Event} (h : Applied s e t) (hs : Legal s) (hv : InvValue s) :
    InvValue t := by
  cases h with
  | start | txDone | tickRead => exact invValue_of_undefined (valueDefined_of_busy nofun)
  | txPart hp | rxPart hp | tickSettle hp => exact invValue_of_undefined (valueDefined_of_busy (by simp [hp]))
  | tickGuard hp => exact invValue_of_undefined (valueDefined_of_busy (by rcases hp with hp | hp <;> simp [hp]))
  | txIncomplete | txErr | rxIncomplete | rxErr | tickTimeout | reset =>
    exact invValue_of_undefined (valueDefined_of_status nofun nofun)
  | rxDev _ _ _ st hk => exact invValue_of_undefined (valueDefined_raise_protocol hk _)
  | tickOk hp _ hl =>
    exact invValue_of_undefined (valueDefined_of_rxLenOf (hs.rxLenOf_eq_zero (by simp [hp]) hl))
  | rxOk _ _ hread hb => exact invValue_read hread hb
  | rxProbe _ _ hread => exact invValue_probe hread
  | cfgWait | tickIdle => exact hv

/-- Settles O46: a step either makes VALUE mean nothing, or leaves it with STATUS and RB as they were, or is the
judgement that writes it. -/
theorem valueIsTheResponseByte : Obligations.ValueIsTheResponseByte := by
  refine ⟨fun s t hs hv h => ?_, invValue_of_undefined rfl⟩
  obtain ⟨e, rest, -, happlied⟩ := step_applied h
  exact happlied.invValue (s := s.withInputs rest) hs hv

end Sys2Proof.Machine
end

section
/-! What the spec calls unspecified is never seen (R37, U5, D13, D14): states that are alike take the same forms of a
step, and stay alike. -/

namespace Sys2Proof.Machine

section

variable {s t : State}

/-! ## The updates of a step on alike states -/

theorem Alike.retriesAfter (h : Alike s t) (k : Nat) : retriesAfter s k = retriesAfter t k := by
  rw [Machine.retriesAfter, Machine.retriesAfter, h.retries]

theorem Alike.acceptBytes (h : Alike s t) (hp : s.phase = .tx) (k : Nat) :
    Alike (acceptBytes k s) (acceptBytes k t) :=
  have hfr : s.fr = t.fr := h.fr (by simp [hp])
  { h with
    txOff := by rw [acceptBytes_txOff, acceptBytes_txOff, h.txOff]
    retries := by rw [acceptBytes_retries, acceptBytes_retries, h.retriesAfter]
    txStream := by rw [acceptBytes_txStream, acceptBytes_txStream, offered, offered, h.txStream, h.txOff, hfr] }

/-- RB[0] after an answer was delivered by some answer, and does not depend on what it held before (R145, R146). -/
theorem Alike.deliverBytes_b0 (h : Alike s t) {bs : List Byte} (hk : 1 ≤ s.rxCnt.toNat + bs.length) :
    (deliverBytes bs s).rb.b0 = (deliverBytes bs t).rb.b0 := by
  rw [deliverBytes_rb, deliverBytes_rb, rbStore_b0, rbStore_b0, ← h.rxCnt]
  by_cases h0 : s.rxCnt.toNat = 0
  · rw [if_pos h0, if_pos h0, List.getD_eq_getElem _ _ (by omega), List.getD_eq_getElem _ _ (by omega)]
  · rw [if_neg h0, if_neg h0, h.rb0 (by omega)]

theorem Alike.deliverBytes_b1 (h : Alike s t) {bs : List Byte} (hk : 2 ≤ s.rxCnt.toNat + bs.length) :
    (deliverBytes bs s).rb.b1 = (deliverBytes bs t).rb.b1 := by
  rw [deliverBytes_rb, deliverBytes_rb, rbStore_b1, rbStore_b1, ← h.rxCnt]
  by_cases h1 : s.rxCnt.toNat ≤ 1
  · rw [if_pos h1, if_pos h1, List.getD_eq_getElem _ _ (by omega), List.getD_eq_getElem _ _ (by omega)]
  · rw [if_neg h1, if_neg h1, h.rb1 (by omega)]

theorem Alike.deliverBytes (h : Alike s t) {bs : List Byte} (hk : s.rxCnt.toNat + bs.length ≤ s.rxLen.toNat) :
    Alike (deliverBytes bs s) (deliverBytes bs t) :=
  { h with
    rxCnt := by rw [deliverBytes_rxCnt, deliverBytes_rxCnt, h.rxCnt]
    retries := by rw [deliverBytes_retries, deliverBytes_retries, h.retriesAfter]
    rxTaken := by rw [deliverBytes_rxTaken, deliverBytes_rxTaken, h.rxTaken]
    rb0 := fun h1 => h.deliverBytes_b0 (by rwa [deliverBytes_rxCnt_toNat hk] at h1)
    rb1 := fun h2 => h.deliverBytes_b1 (by rwa [deliverBytes_rxCnt_toNat hk] at h2) }

theorem Alike.settleEntry (h : Alike s t) (hp : s.phase ≠ .idle) : Alike (settleEntry s) (settleEntry t) :=
  { h with
    phase := rfl
    gArmed := rfl
    curOp := fun _ => h.curOp (.inl hp)
    fr := fun _ => h.fr hp
    gCnt := nofun
    sCnt := fun _ => rfl
    value := nofun }

theorem Alike.readExactEntry (h : Alike s t) (hp : s.phase ≠ .idle) : Alike (readExactEntry s) (readExactEntry t) :=
  { h with
    phase := rfl
    rxCnt := rfl
    retries := rfl
    gArmed := rfl
    curOp := fun _ => h.curOp (.inl hp)
    fr := fun _ => h.fr hp
    gCnt := fun _ => rfl
    sCnt := nofun
    rb0 := by simp
    rb1 := by simp
    value := nofun }

theorem Alike.started (h : Alike s t) (op : Op) {f f' : Frame} (hf : f = f') (n : BitVec 2) (v v' : Byte)
    (m m' : Nat) :
    Alike (started op f n v m s) (started op f' n v' m' t) :=
  { h with
    phase := rfl
    txOff := rfl
    rxLen := rfl
    rxCnt := rfl
    retries := rfl
    gArmed := rfl
    status := rfl
    curOp := fun _ => rfl
    fr := fun _ => hf
    gCnt := fun _ => rfl
    sCnt := nofun
    rb0 := by simp [Machine.started]
    rb1 := by simp [Machine.started]
    value := nofun }

/-- After the completion of an operation the states are alike if they agree on VALUE where it means something (R246). -/
theorem Alike.ended (h : Alike s t) (hp : s.phase ≠ .idle) (st : Status) {v v' : Byte} (m m' : Nat)
    (hv : valueDefined (ended st v m s) = true → v = v') : Alike (ended st v m s) (ended st v' m' t) :=
  { h with
    phase := rfl
    gArmed := rfl
    status := rfl
    curOp := fun _ => h.curOp (.inl hp)
    fr := fun hidle => absurd rfl hidle
    gCnt := nofun
    sCnt := nofun
    value := hv }

theorem Alike.raise (h : Alike s t) (hp : s.phase ≠ .idle) {st : Status} (hv : valueDefined (raise st s) = false) :
    Alike (raise st s) (raise st t) :=
  h.ended hp st _ _ fun hdef => absurd hdef (Bool.eq_false_iff.1 hv)

theorem Alike.resetBlock (h : Alike s t) : Alike (resetBlock s) (resetBlock t) :=
  { h with
    phase := rfl
    txOff := rfl
    rxLen := rfl
    rxCnt := rfl
    retries := rfl
    gArmed := rfl
    wait := rfl
    status := rfl
    curOp := by simp
    fr := by simp
    gCnt := nofun
    sCnt := nofun
    rb0 := by simp
    rb1 := by simp
    value := by simp [valueDefined] }

theorem Alike.guardCounted (h : Alike s t) (harmed : s.gArmed = true) :
    Alike { s with gCnt := BitVec.ofNat 32 (s.gCnt.toNat + 1) } { t with gCnt := BitVec.ofNat 32 (t.gCnt.toNat + 1) } :=
  { h with gCnt := fun _ => congrArg (fun g => BitVec.ofNat 32 (BitVec.toNat g + 1)) (h.gCnt harmed) }

theorem Alike.settleCounted (h : Alike s t) (hp : s.phase = .settle) :
    Alike { s with sCnt := BitVec.ofNat 8 (s.sCnt.toNat + 1) } { t with sCnt := BitVec.ofNat 8 (t.sCnt.toNat + 1) } :=
  { h with sCnt := fun _ => congrArg (fun c => BitVec.ofNat 8 (BitVec.toNat c + 1)) (h.sCnt hp) }

theorem Alike.cfgWait (h : Alike s t) (v : Word32) : Alike { s with wait := v } { t with wait := v } :=
  { h with wait := rfl }

theorem Alike.withInputs (h : Alike s t) (evs : List Event) : Alike (s.withInputs evs) (t.withInputs evs) :=
  { h with events := rfl }

/-! ## Steps and refusals -/

/-- Alike states take the same form of a step, to alike states: what decides a step is never an unspecified element. -/
theorem Applied.alike {s' : State} {e : Event} (happlied : Applied s e s') (hs : Legal s) (h : Alike s t) :
    ∃ t', Applied t e t' ∧ Alike s' t' := by
  cases happlied with
  | start hp ho => exact ⟨_, .start (h.phase ▸ hp) ho, h.started _ (by simp [h.cfg]) ..⟩
  | cfgWait hp hv => exact ⟨_, .cfgWait (h.phase ▸ hp) hv, h.cfgWait _⟩
  | txDone hp hk =>
    exact ⟨_, .txDone (h.phase ▸ hp) (h.txOff ▸ hk), (h.acceptBytes hp _).settleEntry (by simp [hp])⟩
  | txIncomplete hp hk hr =>
    exact ⟨_, .txIncomplete (h.phase ▸ hp) (h.txOff ▸ hk) (h.retriesAfter _ ▸ hr),
      (h.acceptBytes hp _).raise (by simp [hp]) (valueDefined_of_status nofun nofun)⟩
  | txPart hp hk hr =>
    exact ⟨_, .txPart (h.phase ▸ hp) (h.txOff ▸ hk) (h.retriesAfter _ ▸ hr), h.acceptBytes hp _⟩
  | txErr hp =>
    exact ⟨_, .txErr (h.phase ▸ hp), h.raise (by simp [hp]) (valueDefined_of_status nofun nofun)⟩
  | @rxOk bs hp hk hread hb =>
    have hop : s.curOp = t.curOp := h.curOp (.inl (by simp [hp]))
    have hlen : s.rxLen.toNat = 2 := by rw [hs.rxLen_eq_rxLenOf (by simp [hp]), rxLenOf_read hread]; rfl
    have hb0 := h.deliverBytes_b0 (bs := bs) (by omega)
    refine ⟨_, .rxOk (h.phase ▸ hp) (h.rxCnt ▸ h.rxLen ▸ hk) (hop ▸ hread) (hb0 ▸ hb), ?_⟩
    exact (h.deliverBytes hk.le).ended (by simp [hp]) _ _ _ fun _ => h.deliverBytes_b1 (by omega)
  | @rxDev bs hp hk hread st hkind hb hd =>
    have hop : s.curOp = t.curOp := h.curOp (.inl (by simp [hp]))
    have hlen : s.rxLen.toNat = 2 := by rw [hs.rxLen_eq_rxLenOf (by simp [hp]), rxLenOf_read hread]; rfl
    have hb0 := h.deliverBytes_b0 (bs := bs) (by omega)
    have hb1 := h.deliverBytes_b1 (bs := bs) (by omega)
    refine ⟨_, .rxDev (h.phase ▸ hp) (h.rxCnt ▸ h.rxLen ▸ hk) (hop ▸ hread) st hkind (hb0 ▸ hb) ?_, ?_⟩
    · rwa [← hb0, ← hb1, ← h.cfg]
    · exact (h.deliverBytes hk.le).raise (by simp [hp]) (valueDefined_raise_protocol hkind _)
  | @rxProbe bs hp hk hread =>
    have hop : s.curOp = t.curOp := h.curOp (.inl (by simp [hp]))
    have hpos := hs.rxLen_pos hp
    refine ⟨_, .rxProbe (h.phase ▸ hp) (h.rxCnt ▸ h.rxLen ▸ hk) (hop ▸ hread), ?_⟩
    rw [← h.deliverBytes_b0 (by omega)]
    exact (h.deliverBytes hk.le).ended (by simp [hp]) _ _ _ fun _ => rfl
  | rxIncomplete hp hk hr =>
    exact ⟨_, .rxIncomplete (h.phase ▸ hp) (h.rxCnt ▸ h.rxLen ▸ hk) (h.retriesAfter _ ▸ hr),
      (h.deliverBytes hk.le).raise (by simp [hp]) (valueDefined_of_status nofun nofun)⟩
  | rxPart hp hk hr =>
    exact ⟨_, .rxPart (h.phase ▸ hp) (h.rxCnt ▸ h.rxLen ▸ hk) (h.retriesAfter _ ▸ hr), h.deliverBytes hk.le⟩
  | rxErr hp =>
    exact ⟨_, .rxErr (h.phase ▸ hp), h.raise (by simp [hp]) (valueDefined_of_status nofun nofun)⟩
  | tickIdle hp => exact ⟨_, .tickIdle (h.phase ▸ hp), h⟩
  | tickTimeout hp hg =>
    have hcnt : s.gCnt = t.gCnt := h.gCnt (hs.gArmed_eq_true hp)
    exact ⟨_, .tickTimeout (h.phase ▸ hp) (hcnt ▸ h.wait ▸ hg),
      h.raise (by rcases hp with hp | hp <;> simp [hp]) (valueDefined_of_status nofun nofun)⟩
  | tickGuard hp hg =>
    have harmed := hs.gArmed_eq_true hp
    exact ⟨_, .tickGuard (h.phase ▸ hp) (h.gCnt harmed ▸ h.wait ▸ hg), h.guardCounted harmed⟩
  | tickOk hp hc hl =>
    have hbusy : s.phase ≠ .idle := by simp [hp]
    exact ⟨_, .tickOk (h.phase ▸ hp) (h.sCnt hp ▸ hc) (h.rxLen ▸ hl),
      h.raise hbusy (valueDefined_of_rxLenOf (hs.rxLenOf_eq_zero hbusy hl))⟩
  | tickRead hp hc hl =>
    exact ⟨_, .tickRead (h.phase ▸ hp) (h.sCnt hp ▸ hc) (h.rxLen ▸ hl), h.readExactEntry (by simp [hp])⟩
  | tickSettle hp hc => exact ⟨_, .tickSettle (h.phase ▸ hp) (h.sCnt hp ▸ hc), h.settleCounted hp⟩
  | reset => exact ⟨_, .reset, h.resetBlock⟩

/-- Alike states refuse an event by the same name. -/
theorem Refuses.alike {e : Event} {r : Refusal} (hr : Refuses s e r) (h : Alike s t) : Refuses t e r := by
  cases hr with
  | reserved ho => exact .reserved ho
  | busy ho hp => exact .busy ho (h.phase ▸ hp)
  | cfgZero hp => exact .cfgZero (h.phase ▸ hp)
  | cfgBusy hp => exact .cfgBusy (h.phase ▸ hp)
  | txAns hp => exact .txAns (h.phase ▸ hp)
  | txTooLong hp hk => exact .txTooLong (h.phase ▸ hp) (h.txOff ▸ hk)
  | txErr hp => exact .txErr (h.phase ▸ hp)
  | rxAns hp => exact .rxAns (h.phase ▸ hp)
  | rxTooLong hp hk => exact .rxTooLong (h.phase ▸ hp) (h.rxCnt ▸ h.rxLen ▸ hk)
  | rxErr hp => exact .rxErr (h.phase ▸ hp)

end

theorem step_of_events_eq_nil {s : State} (h : s.events = []) : step s = .refused .noEvent := by
  rw [step, takeEvent, h]

theorem step_of_events_eq_cons {s : State} {e : Event} {rest : List Event} (h : s.events = e :: rest) :
    step s = applyEvent e (s.withInputs rest) := by
  rw [step, takeEvent, h]
  rfl

theorem Alike.step_next {s t s' : State} (h : Alike s t) (hs : Legal s) (hstep : step s = .next s') :
    ∃ t', step t = .next t' ∧ Alike s' t' := by
  obtain ⟨e, rest, he, happlied⟩ := step_applied hstep
  obtain ⟨t', ht', halike⟩ := happlied.alike hs (h.withInputs rest)
  exact ⟨t', (step_of_events_eq_cons (h.events.symm.trans he)).trans ht'.applyEvent_eq, halike⟩

theorem Alike.step_refused {s t : State} {r : Refusal} (h : Alike s t) (hstep : step s = .refused r) :
    step t = .refused r := by
  cases he : s.events with
  | nil =>
    rw [step_of_events_eq_nil he] at hstep
    rw [step_of_events_eq_nil (h.events.symm.trans he), hstep]
  | cons e rest =>
    rw [step_of_events_eq_cons he, applyEvent_refused_iff] at hstep
    rw [step_of_events_eq_cons (h.events.symm.trans he), applyEvent_refused_iff]
    exact hstep.alike (h.withInputs rest)

/-- After reset the unspecified elements are exactly those in which alike states may differ (R37). -/
theorem alike_reset (op : Op) (f : Frame) (rb : RespBuf) (g : Word32) (c v : Byte) (es : List Event) :
    Alike (feed es State.reset)
      (feed es { State.reset with curOp := op, fr := f, rb := rb, gCnt := g, sCnt := c, value := v }) := by
  constructor
  case curOp => simp [feed]
  case fr => simp [feed]
  case gCnt => nofun
  case sCnt => nofun
  case rb0 => simp [feed]
  case rb1 => simp [feed]
  case value => nofun
  all_goals rfl

/-- Settles O47: a step and a refusal of one state are matched form by form in the other; after reset the states are
alike by definition; and the host reads only elements on which alike states agree. -/
theorem unspecifiedIsNeverSeen : Obligations.UnspecifiedIsNeverSeen := by
  refine ⟨fun s t hs _ h => ⟨fun s' => h.step_next hs, fun r => h.step_refused⟩, alike_reset, fun s t h => ?_⟩
  exact ⟨by rw [busy, busy, h.phase], h.status, h.wait, h.txOff, h.rxCnt, h.retries⟩

/-- Settles O37: the inputs are empty, so there is no event to perform. -/
theorem noEventNoStep : Obligations.NoEventNoStep := fun _ => step_of_events_eq_nil

end Sys2Proof.Machine
end

section
/-! The requests: the START step of each (R170 to R177), what it leaves unchanged, and the selectors that name them
(R90). -/

namespace Sys2Proof.Machine

/-- START in IDLE latches the frame of its operation and enters write_all, with VALUE drawn freely (R170, R133). -/
theorem startOp_eq_started {s : State} (hp : s.phase = .idle) (op : Op) (loc data : Byte) :
    startOp op loc data s =
      .next (started op (frameOf s.cfg.toConfig op loc data) (rxLenOf op) (Config.freeByte s.freeCount)
        (s.freeCount + 1) s) := startOp_idle hp op loc data

/-- Settles O13: each request is the START of its operation, whose frame and response length are the row's. -/
theorem requestsStart : Obligations.RequestsStart := by
  intro s loc byte hp
  exact ⟨⟨_, _, startOp_eq_started hp .readReg loc 0⟩, ⟨_, _, startOp_eq_started hp .readEeprom loc 0⟩,
    ⟨_, _, startOp_eq_started hp .writeReg loc byte⟩, ⟨_, _, startOp_eq_started hp .writeEeprom loc byte⟩,
    ⟨_, _, startOp_eq_started hp .shortPush 0 0⟩, ⟨_, _, startOp_eq_started hp .longPush 0 0⟩,
    ⟨_, _, startOp_eq_started hp .probe 0 0⟩⟩

/-- A request that answers a next state found the block in IDLE, and answers the state of its START (R170, R181). -/
theorem exec_request_next {s t : State} {i : Instr} (hi : (opOf i).isSome = true) (h : exec i s = .next t) :
    ∃ op f n v m, t = started op f n v m s := by
  obtain ⟨op, hop⟩ := Option.isSome_iff_exists.1 hi
  rw [eq_requestOf_of_opOf hop, exec_requestOf] at h
  by_cases hp : s.phase = .idle
  · rw [startOp_eq_started hp] at h
    cases h
    exact ⟨_, _, _, _, _, rfl⟩
  · rw [startOp_busy hp] at h
    cases h

/-- Settles O14: `started` names every element a START step writes. -/
theorem requestsFrame : Obligations.RequestsFrame := by
  intro s t i hi h
  obtain ⟨op, f, n, v, m, rfl⟩ := exec_request_next hi h
  exact ⟨rfl, rfl, rfl, rfl, rfl, rfl, rfl⟩

/-- Settles O16: selector 7 names no operation, in any phase. -/
theorem selectorSevenIsReserved : Obligations.SelectorSevenIsReserved :=
  ⟨fun _ _ _ => (Refuses.reserved rfl).step_feed, fun _ _ => ⟨rfl, rfl, rfl, rfl, rfl, rfl, rfl, rfl⟩⟩

/-- Settles O18: the one form of a CFG_WAIT that has a step, and its two refusals. -/
theorem cfgWaitStep : Obligations.CfgWaitStep := by
  refine fun s v => ⟨fun hp hv => (Applied.cfgWait hp hv).step_feed, fun hp hv => ?_,
    fun hp => (Refuses.cfgBusy hp).step_feed⟩
  subst hv
  exact (Refuses.cfgZero hp).step_feed

/-- Settles O27: RESET has a step in every state, into `resetBlock`. -/
theorem resetEvent : Obligations.ResetEvent :=
  fun s => ⟨resetBlock s, rfl, rfl, rfl, rfl, rfl, rfl, rfl, rfl, rfl, rfl, rfl, rfl, rfl, rfl⟩

/-- Settles O28: the refusals of the link's answers. -/
theorem answersOutsideTheContract : Obligations.AnswersOutsideTheContract :=
  fun _ => ⟨fun _ hp => (Refuses.txAns hp).step_feed, fun _ hp hk => (Refuses.txTooLong hp hk).step_feed,
    fun _ hp => (Refuses.rxAns hp).step_feed, fun _ hp hk => (Refuses.rxTooLong hp hk).step_feed⟩

end Sys2Proof.Machine
end

section
/-! The responses: the judgement of each (R178), what it leaves unchanged, and where none is due (log 15). -/

namespace Sys2Proof.Machine

theorem judgeOk_due {s : State} (hdue : resp2Due s = true) (v : Byte) :
    judgeOk v s = .next (ended .ok v s.freeCount s) := if_pos hdue

theorem judgeErr_due {s : State} (hdue : resp2Due s = true) (st : Status) :
    judgeErr st s = .next (ended st (Config.freeByte s.freeCount) (s.freeCount + 1) s) := if_pos hdue

/-- Settles O32: each response of a read is one of the two forms of a verdict, and RESP_PROBE_OK is the judgement of
the byte 80. -/
theorem responsesComplete : Obligations.ResponsesComplete := by
  intro s k x hp hcnt
  refine ⟨fun hread => ?_, fun hprobe => ?_⟩
  · have hdue : resp2Due s = true := resp2Due_iff.2 ⟨hp, hcnt, hread⟩
    exact ⟨judgeOk_due hdue x, ⟨_, _, judgeErr_due hdue .devTimeout⟩, ⟨_, _, judgeErr_due hdue .devChecksum⟩,
      ⟨_, _, judgeErr_due hdue .devUnrecognized⟩, ⟨_, _, judgeErr_due hdue .devNoReply⟩,
      ⟨_, _, judgeErr_due hdue .devReplyError⟩, ⟨_, _, judgeErr_due hdue .devOther⟩⟩
  · exact judgeProbe_next_iff.2 ⟨resp1Due_iff.2 ⟨hp, hcnt, hprobe⟩, rfl⟩

/-- A response that answers a next state answers a completion of the operation (R178, R246). -/
theorem exec_response_next {s t : State} {i : Instr} (hi : opOf i = none) (h : exec i s = .next t) :
    ∃ st v m, t = ended st v m s := by
  cases i with
  | readReg | readEeprom | writeReg | writeEeprom | shortPush | longPush | probe => cases hi
  | respSuccess => exact ⟨_, _, _, (judgeOk_next_iff.1 h).2⟩
  | respDevTimeout | respDevChecksum | respDevUnrecognized | respDevNoReply | respDevReplyError | respDevOther =>
    exact ⟨_, _, _, (judgeErr_next_iff.1 h).2⟩
  | respProbeOk => exact ⟨_, _, _, (judgeProbe_next_iff.1 h).2⟩

/-- Settles O33: `ended` names every element a judgement writes. -/
theorem responsesFrame : Obligations.ResponsesFrame := by
  intro s t i hi h
  obtain ⟨st, v, m, rfl⟩ := exec_response_next hi h
  exact ⟨rfl, rfl, rfl, rfl, rfl, rfl, rfl, rfl, rfl, rfl, rfl, rfl, rfl, rfl⟩

/-- Settles O34: each of the three conditions denies one that `resp2Due`, or `resp1Due`, asks for. -/
theorem responseNotDueIsRefused : Obligations.ResponseNotDueIsRefused := by
  intro s i hi hnot
  cases i with
  | readReg | readEeprom | writeReg | writeEeprom | shortPush | longPush | probe => cases hi
  | respSuccess | respDevTimeout | respDevChecksum | respDevUnrecognized | respDevNoReply | respDevReplyError
  | respDevOther =>
    refine if_neg fun hdue => ?_
    obtain ⟨hp, hcnt, hread⟩ := resp2Due_iff.1 hdue
    simp [hp, hcnt, hread] at hnot
  | respProbeOk =>
    refine if_neg fun hdue => ?_
    obtain ⟨hp, hcnt, hprobe⟩ := resp1Due_iff.1 hdue
    simp [hp, hcnt, hprobe] at hnot

end Sys2Proof.Machine
end

section
/-! A step runs the instruction that its event names or completes (R170, R178; log 15, 16), and a word placed as the
next input is such an event (log 2). -/

namespace Sys2Proof

/-- Four bytes are read as a request or not at all (R85, R89). -/
theorem isSome_opOf_of_decodeRequest {c : Config} {f : Frame} {i : Instr} (h : decodeRequest c f = .ok i) :
    (opOf i).isSome = true := by
  obtain ⟨-, hrow⟩ := requestRow_of_decodeRequest h
  cases i with
  | readReg | readEeprom | writeReg | writeEeprom | shortPush | longPush | probe => rfl
  | respSuccess | respDevTimeout | respDevChecksum | respDevUnrecognized | respDevNoReply | respDevReplyError
  | respDevOther | respProbeOk => exact hrow.elim

theorem probeOk_of_decodeResp1_error {b : Byte} {e : DecodeError} (h : decodeResp1 b = .error e) :
    probeOk b = false := by
  rw [decodeResp1] at h
  split at h
  · cases h
  · exact Bool.eq_false_iff.2 ‹_›

namespace Machine

theorem startEvent_of_decodeStart {sel : BitVec 3} {loc data : Byte} {i : Instr} (h : decodeStart sel loc data = some i)
    (s : State) : startEvent sel loc data s = exec i s := by
  rw [startEvent, h]

/-- The START built for a request runs it (R90, R170). -/
theorem applyEvent_startFor {i : Instr} (hi : (opOf i).isSome = true) (s : State) :
    applyEvent (startFor i) s = exec i s := by
  cases i with
  | readReg | readEeprom | writeReg | writeEeprom | shortPush | longPush | probe => rfl
  | respSuccess | respDevTimeout | respDevChecksum | respDevUnrecognized | respDevNoReply | respDevReplyError
  | respDevOther | respProbeOk => cases hi

section

variable {s : State} {bs : List Byte} (hp : s.phase = .rx) (hk : s.rxCnt.toNat + bs.length = s.rxLen.toNat)
include hp hk

/-- The RX_ANS that completes the response of a read runs what its two bytes decode to (R178; log 15). -/
theorem step_rxAns_read {i : Instr} (hread : isReadOp s.curOp = true)
    (hi : decodeBytes s.cfg.toConfig [(deliverBytes bs s).rb.b0, (deliverBytes bs s).rb.b1] = .ok i) :
    step (feed [.rxAns bs] s) = exec i (disarm (deliverBytes bs s)) := by
  rw [step_rxAns_complete hp hk, judge_read (s := disarm (deliverBytes bs s)) hread, ← Except.ok.inj hi]
  rfl

/-- The RX_ANS that completes the response of PROBE runs what its byte decodes to (R178; log 15). -/
theorem step_rxAns_probe {i : Instr} (hprobe : isReadOp s.curOp = false)
    (hi : decodeBytes s.cfg.toConfig [(deliverBytes bs s).rb.b0] = .ok i) :
    step (feed [.rxAns bs] s) = exec i (disarm (deliverBytes bs s)) := by
  have hi' : decodeResp1 (disarm (deliverBytes bs s)).rb.b0 = .ok i := hi
  rw [step_rxAns_complete hp hk, judge, hi']
  exact if_neg (by simp [hprobe])

/-- A byte that no row of the table has fails the probe (R116; log 16). -/
theorem step_rxAns_probe_failed {e : DecodeError} (hprobe : isReadOp s.curOp = false)
    (he : decodeBytes s.cfg.toConfig [(deliverBytes bs s).rb.b0] = .error e) :
    step (feed [.rxAns bs] s) =
      .next (ended .testFailed (deliverBytes bs s).rb.b0 s.freeCount (disarm (deliverBytes bs s))) := by
  have hfail : probeOk (disarm (deliverBytes bs s)).rb.b0 = false := probeOk_of_decodeResp1_error he
  have hdue : resp1Due (disarm (deliverBytes bs s)) = true :=
    resp1Due_iff.2 ⟨hp, deliverBytes_rxCnt_eq_rxLen hk, hprobe⟩
  rw [step_rxAns_complete hp hk, judge_probe_due hdue, hfail]
  rfl

/-- The completing RX_ANS answers a next state. -/
theorem exists_step_rxAns : ∃ t, step (feed [.rxAns bs] s) = .next t := by
  obtain ⟨t, ht⟩ := exists_applied_rxAns hp hk
  exact ⟨t, ht.step_feed⟩

end

/-- Settles O35: START and the completing RX_ANS run an instruction, the first by its selector and operands, the
second by the bytes in RB. -/
theorem stepRunsTheDecodedInstruction : Obligations.StepRunsTheDecodedInstruction :=
  ⟨fun s _ _ _ _ hi => startEvent_of_decodeStart hi s,
    fun _ _ hp hk => ⟨fun _ => step_rxAns_read hp hk, fun _ => step_rxAns_probe hp hk,
      fun _ => step_rxAns_probe_failed hp hk⟩⟩

theorem step_withFetchWord_request {s : State} {w : Nat} {i : Instr}
    (hi : decodeBytes s.cfg.toConfig (wordBytes 4 w) = .ok i) : step (s.withFetchWord 32 w) = exec i s := by
  have hi' : decodeBytes s.cfg.toConfig (wordBytes (32 / 8) w) = .ok i := hi
  have hplace : s.withFetchWord 32 w = { s with events := startFor i :: s.events } := by
    simp only [State.withFetchWord, placeWord, hi']
  rw [hplace, step_cons]
  exact applyEvent_startFor (isSome_opOf_of_decodeRequest hi) s

/-- Settles O36: a placed request is the START that names it; a placed response is the RX_ANS that completes the
response of an operation that awaits exactly its bytes, and a complete response is always judged. -/
theorem placedWordRunsNext : Obligations.PlacedWordRunsNext := by
  refine ⟨fun s w i => step_withFetchWord_request, fun s w i hi => ?_, fun s w i hi => ?_⟩
  · have hbytes : wordBytes 2 w = [BitVec.ofNat 8 (w / 256), BitVec.ofNat 8 w] := by simp [wordBytes]
    obtain ⟨t, ht⟩ := exists_step_rxAns (s := awaitResponse .readReg s) (bs := wordBytes 2 w) rfl rfl
    have hrun := step_rxAns_read (s := awaitResponse .readReg s) (bs := wordBytes 2 w) rfl rfl rfl (i := i) hi
    refine ⟨_, t, hrun, hrun.symm.trans ht, rfl, rfl, ?_⟩
    simp only [disarm_rb, deliverBytes_rb, hbytes]
    rfl
  · have hbytes : wordBytes 1 w = [BitVec.ofNat 8 w] := by simp [wordBytes]
    obtain ⟨t, ht⟩ := exists_step_rxAns (s := awaitResponse .probe s) (bs := wordBytes 1 w) rfl rfl
    have hrun := step_rxAns_probe (s := awaitResponse .probe s) (bs := wordBytes 1 w) rfl rfl rfl (i := i) hi
    refine ⟨_, t, hrun, hrun.symm.trans ht, rfl, rfl, ?_⟩
    simp only [disarm_rb, deliverBytes_rb, hbytes]
    rfl

end Machine
end Sys2Proof
end

section
/-! Answers to a write (R135), the settle delay (R142, D21), and a completing answer beside the last TICK (R250,
D19). -/

namespace Sys2Proof.Machine

/-- Settles O19: the three forms of an answer to a write. -/
theorem writeAnswerStep : Obligations.WriteAnswerStep := by
  intro s k hp hk off ret p
  exact ⟨fun hoff => (Applied.txDone hp hoff).step_feed,
    fun hoff hret => ⟨_, _, (Applied.txIncomplete hp (Nat.lt_of_le_of_ne hk hoff) hret).step_feed⟩,
    fun hoff hret => (Applied.txPart hp (Nat.lt_of_le_of_ne hk hoff) hret).step_feed⟩

/-! ## The settle delay -/

/-- The state with the settle count at n, the only element a TICK of the delay changes before its last (R142). -/
def settling (n : Nat) (s : State) : State := { s with sCnt := BitVec.ofNat 8 n }

theorem settling_zero {s : State} (h0 : s.sCnt = 0) : settling 0 s = s := by
  show { s with sCnt := (0 : BitVec 8) } = s
  rw [← h0]

theorem settling_sCnt_toNat {n : Nat} (hn : n < 200) (s : State) : (settling n s).sCnt.toNat = n :=
  Nat.mod_eq_of_lt (by omega)

theorem tick_settling {n : Nat} {s : State} (hp : s.phase = .settle) (hn : n + 1 < 200) :
    applyEvent .tick (settling n s) = .next (settling (n + 1) s) := by
  have hcnt := settling_sCnt_toNat (by omega : n < 200) s
  have htick := (Applied.tickSettle (s := settling n s) hp (by omega)).applyEvent_eq
  rwa [hcnt] at htick

/-- From the entry to the delay on, fewer than 200 TICKs only count (R142). -/
theorem runEvents_ticks_settling {n : Nat} {s : State} (hp : s.phase = .settle) (h0 : s.sCnt = 0) (hn : n < 200) :
    runEvents (ticks n) s = some (settling n s) := by
  induction n with
  | zero => exact congrArg some (settling_zero h0).symm
  | succ n ih =>
    rw [ticks_succ', runEvents_append, ih (by omega), Option.bind_some, runEvents_cons (tick_settling hp hn)]
    rfl

/-- Settles O22: the run of TICKs short of the last, the two forms of the last one, and the refusals of PHASE SETTLE. -/
theorem settleDelay : Obligations.SettleDelay := by
  intro s hp
  have htx : s.phase ≠ .tx := by simp [hp]
  have hrx : s.phase ≠ .rx := by simp [hp]
  exact ⟨fun h0 n hn => steps_ticks (runEvents_ticks_settling hp h0 hn),
    fun hc hl => ⟨_, _, (Applied.tickOk hp (congrArg (· + 1) hc) hl).step_feed⟩,
    fun hc hl => (Applied.tickRead hp (congrArg (· + 1) hc) hl).step_feed,
    fun _ => (Refuses.txAns htx).step_feed, (Refuses.txErr htx).step_feed,
    fun _ => (Refuses.rxAns hrx).step_feed, (Refuses.rxErr hrx).step_feed⟩

/-! ## Two causes that fall together -/

/-- The judgement of a complete response gives a STATUS of its format (R178, R180). -/
theorem Applied.judged_status {s t : State} {bs : List Byte} (h : Applied s (.rxAns bs) t)
    (hk : s.rxCnt.toNat + bs.length = s.rxLen.toNat) : t.status ∈ judgedStatuses s.curOp := by
  cases h with
  | rxOk _ _ hread =>
    rw [judgedStatuses, if_pos hread]
    exact List.mem_cons_self
  | rxDev _ _ hread st hkind =>
    rw [judgedStatuses, if_pos hread]
    exact mem_verdicts_of_protocol hkind
  | rxProbe _ _ hprobe =>
    rw [raiseWithValue_status, judgedStatuses, if_neg (by simp [hprobe])]
    split <;> decide
  | rxIncomplete _ hlt | rxPart _ hlt => exact absurd hk hlt.ne

/-- The judgement of a complete response ends the operation (R246). -/
theorem Applied.judged_idle {s t : State} {bs : List Byte} (h : Applied s (.rxAns bs) t)
    (hk : s.rxCnt.toNat + bs.length = s.rxLen.toNat) : t.phase = .idle ∧ t.gArmed = false := by
  cases h with
  | rxOk | rxDev | rxProbe => exact ⟨rfl, rfl⟩
  | rxIncomplete _ hlt | rxPart _ hlt => exact absurd hk hlt.ne

/-- Two events, one after the other. -/
theorem Applied.steps_feed_pair {s s' t : State} {e e' : Event} (h : Applied s e s') (h' : Applied s' e' t) :
    steps 2 (feed [e, e'] s) = .next t := by
  refine steps_feed (es := [e, e']) ?_
  rw [runEvents_cons h.applyEvent_eq, runEvents_cons h'.applyEvent_eq, runEvents]

/-- Settles O29: the second event meets the state the first one leaves, which is PHASE SETTLE or IDLE. -/
theorem answerAndLastTickInEitherOrder : Obligations.AnswerAndLastTickInEitherOrder := by
  intro s hg
  refine ⟨fun k hp hk => ⟨?_, ?_⟩, fun bs hp hk => ⟨?_, ?_⟩⟩
  · have htick := Applied.tickSettle (s := settleEntry (acceptBytes k s)) rfl (by simp)
    exact ⟨_, (Applied.txDone hp hk).steps_feed_pair htick, rfl, rfl, rfl, rfl⟩
  · exact ⟨_, (Applied.tickTimeout (s := feed [.txAns k] s) (.inl hp) hg).step_feed, rfl, rfl,
      (Refuses.txAns (s := raise .timeout (disarm s)) nofun).step_feed⟩
  · obtain ⟨t, ht⟩ := exists_applied_rxAns hp hk
    obtain ⟨hidle, harmed⟩ := ht.judged_idle hk
    exact ⟨t, ht.step_feed, ht.steps_feed_pair (.tickIdle hidle), hidle, ht.judged_status hk, harmed⟩
  · exact ⟨_, (Applied.tickTimeout (s := feed [.rxAns bs] s) (.inr hp) hg).step_feed, rfl, rfl,
      (Refuses.rxAns (s := raise .timeout (disarm s)) nofun).step_feed⟩

end Sys2Proof.Machine
end

section
/-! The transition table of R180, both ways. -/

namespace Sys2Proof.Machine

/-- The seven selectors that name an operation (R90). -/
theorem isSome_opOfSelector : ∀ sel : BitVec 3, (opOfSelector sel).isSome = true ↔ sel.toNat ≤ 6 := by decide

/-- With retries to spare, the tenth is one without progress (R26, D6). -/
theorem retriesAfter_eq_ten {s : State} {k : Nat} (hlt : s.retries.toNat < 10) (hr : retriesAfter s k = 10) :
    k = 0 ∧ s.retries.toNat + 1 = 10 := by
  by_cases hk : k = 0
  · exact ⟨hk, by rwa [hk, retriesAfter_zero] at hr⟩
  · rw [retriesAfter_pos s hk] at hr
    omega

theorem Applied.tableRow {s t : State} {e : Event} (h : Applied s e t) (hs : Legal s) :
    TableRow s e t.phase t.status := by
  cases h with
  | start hp ho => exact .start hp ((isSome_opOfSelector _).1 (Option.isSome_of_mem ho))
  | cfgWait hp hv => simpa only [hp] using TableRow.cfgWait hp (toNat_pos_of_ne_zero hv)
  | txDone hp hk => exact .txDone hp hk
  | txIncomplete hp hk hr =>
    obtain ⟨rfl, hr⟩ := retriesAfter_eq_ten (hs.retries_lt (.inl hp)) hr
    exact .txIncomplete hp (hs.txOff_lt hp) hr
  | @txPart k hp hk hr =>
    rw [acceptBytes_phase, acceptBytes_status, hp]
    by_cases hk0 : k = 0
    · subst hk0
      have hlt := hs.retries_lt (.inl hp)
      rw [retriesAfter_zero] at hr
      exact .txRetry hp hk (by omega)
    · exact .txPart hp hk (Nat.pos_of_ne_zero hk0)
  | txErr hp => exact .txErr hp
  | rxOk hp hk hread hb => exact .rxDone hp hk ((Applied.rxOk hp hk hread hb).judged_status hk)
  | rxDev hp hk hread st hkind hb hd =>
    exact .rxDone hp hk ((Applied.rxDev hp hk hread st hkind hb hd).judged_status hk)
  | rxProbe hp hk hprobe => exact .rxDone hp hk ((Applied.rxProbe hp hk hprobe).judged_status hk)
  | rxIncomplete hp hk hr =>
    obtain ⟨h0, hr⟩ := retriesAfter_eq_ten (hs.retries_lt (.inr hp)) hr
    cases List.length_eq_zero_iff.1 h0
    exact .rxIncomplete hp hk hr
  | @rxPart bs hp hk hr =>
    rw [deliverBytes_phase, deliverBytes_status, hp]
    by_cases hbs : bs = []
    · subst hbs
      have hlt := hs.retries_lt (.inr hp)
      rw [List.length_nil, retriesAfter_zero] at hr
      exact .rxRetry hp hk (by omega)
    · exact .rxPart hp hk hbs
  | rxErr hp => exact .rxErr hp
  | tickIdle hp => rw [hp]; exact .idleTick hp
  | tickTimeout hp hg =>
    rcases hp with hp | hp
    · exact .txTimeout hp hg
    · exact .rxTimeout hp hg
  | tickGuard hp hg =>
    have hlt := hs.gCnt_lt hp
    rcases hp with hp | hp
    · simpa only [hp] using TableRow.txTick hp (by omega)
    · simpa only [hp] using TableRow.rxTick hp (by omega)
  | tickOk hp hc hl => exact .settleOk hp hc (by rw [hl]; rfl)
  | tickRead hp hc hl => exact .settleRead hp hc (toNat_pos_of_ne_zero hl)
  | tickSettle hp hc =>
    have hlt := hs.sCnt_lt hp
    simpa only [hp] using TableRow.settleTick hp (by omega)
  | reset => exact .reset

theorem TableRow.exists_applied {s : State} {e : Event} {p : Phase} {st : Status} (h : TableRow s e p st) :
    ∃ t, Applied s e t := by
  cases h with
  | start hp hs =>
    obtain ⟨op, hop⟩ := Option.isSome_iff_exists.1 ((isSome_opOfSelector _).2 hs)
    exact ⟨_, .start hp hop⟩
  | cfgWait hp hv => exact ⟨_, .cfgWait hp (by rintro rfl; simp at hv)⟩
  | txDone hp hk | txPart hp hk | txRetry hp hk | txIncomplete hp hk => exact exists_applied_txAns hp (by omega)
  | txErr hp => exact ⟨_, .txErr hp⟩
  | rxDone hp hk | rxPart hp hk => exact exists_applied_rxAns_of_le hp (by omega)
  | rxRetry hp hk | rxIncomplete hp hk => exact exists_applied_rxAns_of_le hp hk.le
  | rxErr hp => exact ⟨_, .rxErr hp⟩
  | idleTick | txTick | txTimeout | settleTick | settleOk | settleRead | rxTick | rxTimeout =>
    exact exists_applied_tick s
  | reset => exact ⟨_, .reset⟩

/-- Settles O40: each form of a step is a row under the ranges of a legal state, and the event of each row has a
step. -/
theorem transitionTable : Obligations.TransitionTable := by
  refine ⟨fun s t e hs h => (step_feed_applied h).tableRow hs, fun s e p st h => ?_⟩
  obtain ⟨t, ht⟩ := h.exists_applied
  exact ⟨t, ht.step_feed⟩

end Sys2Proof.Machine
end

section
/-! Which events write each element (the column "written by" of R33): a step that changes the element is one of the
forms of `Applied` that write it. -/

namespace Sys2Proof.Machine

section

variable {s t : State} {e : Event} (h : Applied s e t)
include h

theorem Applied.phase_written (hne : t.phase ≠ s.phase) (v : Word32) : e ≠ .cfgWait v := by
  rintro rfl
  cases h
  exact hne rfl

theorem Applied.gArmed_written (hne : t.gArmed ≠ s.gArmed) : t.phase ≠ s.phase ∨ e = .reset := by
  cases h with
  | start hp => exact .inl (by simp [hp])
  | txDone hp | txIncomplete hp | txErr hp => exact .inl (by simp [hp])
  | rxOk hp | rxDev hp | rxProbe hp | rxIncomplete hp | rxErr hp => exact .inl (by simp [hp])
  | tickTimeout hp => exact .inl (by rcases hp with hp | hp <;> simp [hp])
  | tickOk hp | tickRead hp => exact .inl (by simp [hp])
  | reset => exact .inr rfl
  | cfgWait | txPart | rxPart | tickIdle | tickGuard | tickSettle => exact absurd rfl hne

theorem Applied.gCnt_written (hne : t.gCnt ≠ s.gCnt) : (∃ sel l d, e = .start sel l d) ∨ e = .tick ∨ e = .reset := by
  cases h with
  | start => exact .inl ⟨_, _, _, rfl⟩
  | tickIdle | tickTimeout | tickGuard | tickOk | tickRead | tickSettle => exact .inr (.inl rfl)
  | reset => exact .inr (.inr rfl)
  | cfgWait | txDone | txIncomplete | txPart | txErr | rxOk | rxDev | rxProbe | rxIncomplete | rxPart | rxErr =>
    exact absurd rfl hne

theorem Applied.sCnt_written (hne : t.sCnt ≠ s.sCnt) :
    (∃ k, e = .txAns k) ∨ (e = .tick ∧ s.phase = .settle) ∨ e = .reset := by
  cases h with
  | txDone => exact .inl ⟨_, rfl⟩
  | tickSettle hp => exact .inr (.inl ⟨rfl, hp⟩)
  | reset => exact .inr (.inr rfl)
  | start | cfgWait | txIncomplete | txPart | txErr | rxOk | rxDev | rxProbe | rxIncomplete | rxPart | rxErr | tickIdle
  | tickTimeout | tickGuard | tickOk | tickRead => exact absurd rfl hne

/-- CUR_OP, FR and RX_LEN are latched by START and stay for the whole operation (R22, R23, R25). -/
theorem Applied.request_kept :
    (∃ sel l d, e = .start sel l d) ∨ e = .reset ∨ (t.curOp = s.curOp ∧ t.fr = s.fr ∧ t.rxLen = s.rxLen) := by
  cases h with
  | start => exact .inl ⟨_, _, _, rfl⟩
  | reset => exact .inr (.inl rfl)
  | cfgWait | txDone | txIncomplete | txPart | txErr | rxOk | rxDev | rxProbe | rxIncomplete | rxPart | rxErr | tickIdle
  | tickTimeout | tickGuard | tickOk | tickRead | tickSettle => exact .inr (.inr ⟨rfl, rfl, rfl⟩)

theorem Applied.request_written (hne : t.curOp ≠ s.curOp ∨ t.fr ≠ s.fr ∨ t.rxLen ≠ s.rxLen) :
    (∃ sel l d, e = .start sel l d) ∨ e = .reset := by
  rcases h.request_kept with hstart | hreset | ⟨hop, hfr, hlen⟩
  · exact .inl hstart
  · exact .inr hreset
  · rcases hne with hne | hne | hne
    · exact absurd hop hne
    · exact absurd hfr hne
    · exact absurd hlen hne

theorem Applied.txOff_written (hne : t.txOff ≠ s.txOff) :
    (∃ sel l d, e = .start sel l d) ∨ (∃ k, e = .txAns k) ∨ e = .reset := by
  cases h with
  | start => exact .inl ⟨_, _, _, rfl⟩
  | txDone | txIncomplete | txPart => exact .inr (.inl ⟨_, rfl⟩)
  | reset => exact .inr (.inr rfl)
  | cfgWait | txErr | rxOk | rxDev | rxProbe | rxIncomplete | rxPart | rxErr | tickIdle | tickTimeout | tickGuard
  | tickOk | tickRead | tickSettle => exact absurd rfl hne

theorem Applied.rb_written (hne : t.rb ≠ s.rb) : (∃ bs, e = .rxAns bs) ∨ e = .reset := by
  cases h with
  | rxOk | rxDev | rxProbe | rxIncomplete | rxPart => exact .inl ⟨_, rfl⟩
  | reset => exact .inr rfl
  | start | cfgWait | txDone | txIncomplete | txPart | txErr | rxErr | tickIdle | tickTimeout | tickGuard | tickOk
  | tickRead | tickSettle => exact absurd rfl hne

theorem Applied.rxCnt_written (hne : t.rxCnt ≠ s.rxCnt) :
    (∃ sel l d, e = .start sel l d) ∨ (e = .tick ∧ s.phase = .settle) ∨ (∃ bs, e = .rxAns bs) ∨ e = .reset := by
  cases h with
  | start => exact .inl ⟨_, _, _, rfl⟩
  | tickRead hp => exact .inr (.inl ⟨rfl, hp⟩)
  | rxOk | rxDev | rxProbe | rxIncomplete | rxPart => exact .inr (.inr (.inl ⟨_, rfl⟩))
  | reset => exact .inr (.inr (.inr rfl))
  | cfgWait | txDone | txIncomplete | txPart | txErr | rxErr | tickIdle | tickTimeout | tickGuard | tickOk
  | tickSettle => exact absurd rfl hne

theorem Applied.retries_written (hne : t.retries ≠ s.retries) :
    (∃ sel l d, e = .start sel l d) ∨ (e = .tick ∧ s.phase = .settle) ∨ (∃ k, e = .txAns k) ∨ (∃ bs, e = .rxAns bs) ∨
      e = .reset := by
  cases h with
  | start => exact .inl ⟨_, _, _, rfl⟩
  | tickRead hp => exact .inr (.inl ⟨rfl, hp⟩)
  | txDone | txIncomplete | txPart => exact .inr (.inr (.inl ⟨_, rfl⟩))
  | rxOk | rxDev | rxProbe | rxIncomplete | rxPart => exact .inr (.inr (.inr (.inl ⟨_, rfl⟩)))
  | reset => exact .inr (.inr (.inr (.inr rfl)))
  | cfgWait | txErr | rxErr | tickIdle | tickTimeout | tickGuard | tickOk | tickSettle => exact absurd rfl hne

theorem Applied.wait_written (hne : t.wait ≠ s.wait) : (∃ v, e = .cfgWait v) ∨ e = .reset := by
  cases h with
  | cfgWait => exact .inl ⟨_, rfl⟩
  | reset => exact .inr rfl
  | start | txDone | txIncomplete | txPart | txErr | rxOk | rxDev | rxProbe | rxIncomplete | rxPart | rxErr | tickIdle
  | tickTimeout | tickGuard | tickOk | tickRead | tickSettle => exact absurd rfl hne

/-- STATUS and VALUE are written by START, by RESET and by the completion of an operation, which turns BUSY off (R30,
R31, R246). -/
theorem Applied.result_kept :
    (∃ sel l d, e = .start sel l d) ∨ (busy s = true ∧ busy t = false) ∨ e = .reset ∨
      (t.status = s.status ∧ t.value = s.value) := by
  cases h with
  | start => exact .inl ⟨_, _, _, rfl⟩
  | txIncomplete hp | txErr hp | rxOk hp | rxDev hp | rxProbe hp | rxIncomplete hp | rxErr hp | tickOk hp =>
    exact .inr (.inl ⟨by simp [busy, hp], rfl⟩)
  | tickTimeout hp => exact .inr (.inl ⟨by rcases hp with hp | hp <;> simp [busy, hp], rfl⟩)
  | reset => exact .inr (.inr (.inl rfl))
  | cfgWait | txDone | txPart | rxPart | tickIdle | tickGuard | tickRead | tickSettle =>
    exact .inr (.inr (.inr ⟨rfl, rfl⟩))

theorem Applied.result_written (hne : t.status ≠ s.status ∨ t.value ≠ s.value) :
    (∃ sel l d, e = .start sel l d) ∨ (busy s = true ∧ busy t = false) ∨ e = .reset := by
  rcases h.result_kept with hstart | hdone | hreset | ⟨hst, hv⟩
  · exact .inl hstart
  · exact .inr (.inl hdone)
  · exact .inr (.inr hreset)
  · rcases hne with hne | hne
    · exact absurd hst hne
    · exact absurd hv hne

/-- The link accepts bytes by TX_ANS only, and takes none back (R53, R134). -/
theorem Applied.txStream_written :
    t.txStream = s.txStream ∨ ∃ k, e = .txAns k ∧ t.txStream = s.txStream ++ (offered s).take k := by
  cases h with
  | txDone | txIncomplete | txPart => exact .inr ⟨_, rfl, rfl⟩
  | start | cfgWait | txErr | rxOk | rxDev | rxProbe | rxIncomplete | rxPart | rxErr | tickIdle | tickTimeout
  | tickGuard | tickOk | tickRead | tickSettle | reset => exact .inl rfl

theorem Applied.txStream_grows : s.txStream <+: t.txStream := by
  rcases h.txStream_written with hsame | ⟨k, -, hgrown⟩
  · exact ⟨[], by rw [hsame, List.append_nil]⟩
  · exact ⟨_, hgrown.symm⟩

/-- The link delivers bytes by RX_ANS only (R53, R144). -/
theorem Applied.rxTaken_written (hne : t.rxTaken ≠ s.rxTaken) : ∃ bs, e = .rxAns bs ∧ t.rxTaken = s.rxTaken ++ bs := by
  cases h with
  | rxOk | rxDev | rxProbe | rxIncomplete | rxPart => exact ⟨_, rfl, rfl⟩
  | start | cfgWait | txDone | txIncomplete | txPart | txErr | rxErr | tickIdle | tickTimeout | tickGuard | tickOk
  | tickRead | tickSettle | reset => exact absurd rfl hne

theorem Applied.cfg_eq : t.cfg = s.cfg := by cases h <;> rfl

end

/-- Settles O42: element by element, what the forms of a step that change it have in common. -/
theorem writtenBy : Obligations.WrittenBy := by
  intro s t e hstep
  have h := step_feed_applied hstep
  refine ⟨h.phase_written, h.gArmed_written, h.gCnt_written, h.sCnt_written, fun hne => h.request_written (.inl hne),
    fun hne => h.request_written (.inr (.inl hne)), h.txOff_written, h.rb_written,
    fun hne => h.request_written (.inr (.inr hne)), h.rxCnt_written, h.retries_written, h.wait_written,
    fun hne => h.result_written (.inl hne), fun hne => h.result_written (.inr hne), fun hne => ?_, h.txStream_grows,
    h.rxTaken_written, h.cfg_eq, applied_events h⟩
  rcases h.txStream_written with hsame | ⟨k, he, -⟩
  · exact absurd hsame hne
  · exact ⟨k, he⟩

end Sys2Proof.Machine
end

section
/-! The cause of every STATUS (R183, R240, R241): which form of a step raises it, and what is recorded beside it. -/

namespace Sys2Proof.Machine

/-! ## Which operations can report which STATUS -/

theorem mem_canRaise_of_transport {st : Status} (h : statusKind st = .transport) (op : Op) : st ∈ canRaise op := by
  cases st with
  | ioError | incomplete | timeout => cases op <;> decide
  | none | ok | devTimeout | devChecksum | devUnrecognized | devNoReply | devReplyError | devOther | testFailed =>
    cases h

theorem ok_mem_canRaise (op : Op) : Status.ok ∈ canRaise op := by cases op <;> decide

theorem mem_canRaise_of_protocol {st : Status} (h : statusKind st = .protocol) {op : Op} (hread : isReadOp op = true) :
    st ∈ canRaise op := by
  cases op with
  | readReg | readEeprom =>
    cases st with
    | devTimeout | devChecksum | devUnrecognized | devNoReply | devReplyError | devOther => decide
    | none | ok | ioError | incomplete | timeout | testFailed => cases h
  | writeReg | writeEeprom | shortPush | longPush | probe => cases hread

/-! ## The verdict on the byte of PROBE (R116) -/

theorem probeVerdict_eq_ok_iff {b : Byte} : (if probeOk b then Status.ok else .testFailed) = .ok ↔ b = 0x80 := by
  rw [← probeOk_eq_true_iff]
  split <;> simp [*]

theorem probeVerdict_eq_testFailed_iff {b : Byte} :
    (if probeOk b then Status.ok else .testFailed) = .testFailed ↔ b ≠ 0x80 := by
  rw [ne_eq, ← probeOk_eq_true_iff]
  split <;> simp [*]

/-! ## What an answer without progress leaves -/

theorem acceptBytes_zero_txOff (s : State) : (acceptBytes 0 s).txOff = s.txOff := by simp

theorem deliverBytes_nil_rxCnt (s : State) : (deliverBytes [] s).rxCnt = s.rxCnt := by simp

/-- The stage of a transport failure is read off TX_OFF (R241). -/
theorem failedStage_eq_writeAll_iff {s : State} (h : statusKind s.status = .transport) :
    failedStage s = some .writeAll ↔ s.txOff.toNat < 4 := by
  rw [failedStage, if_pos h]
  split <;> simp [*]

section

variable {s t : State} {e : Event} (h : Applied s e t) (hne : t.status ≠ s.status)
include h hne

/-- A new STATUS is raised by the completion of the operation in flight, which can report it (R183, R246). -/
theorem Applied.raised (hs : Legal s) (hnone : t.status ≠ .none) :
    t.phase = .idle ∧ t.status ∈ canRaise s.curOp ∧ t.curOp = s.curOp := by
  cases h with
  | cfgWait | txDone | txPart | rxPart | tickIdle | tickGuard | tickRead | tickSettle => exact absurd rfl hne
  | start | reset => exact absurd rfl hnone
  | txIncomplete | txErr | rxIncomplete | rxErr | tickTimeout => exact ⟨rfl, mem_canRaise_of_transport rfl _, rfl⟩
  | tickOk | rxOk => exact ⟨rfl, ok_mem_canRaise _, rfl⟩
  | rxDev _ _ hread st hkind => exact ⟨rfl, mem_canRaise_of_protocol hkind hread, rfl⟩
  | rxProbe hp _ hprobe =>
    refine ⟨rfl, ?_, rfl⟩
    rw [hs.curOp_eq_probe hp hprobe, raiseWithValue_status]
    split <;> decide

/-- IO_ERROR is raised by a link error alone, with everything as it was (R139, R150). -/
theorem Applied.cause_of_ioError (ht : t.status = .ioError) :
    (s.phase = .tx ∧ e = .txErr ∨ s.phase = .rx ∧ e = .rxErr) ∧ t.rb = s.rb ∧ t.txOff = s.txOff ∧ t.rxCnt = s.rxCnt ∧
      t.retries = s.retries := by
  cases h with
  | txErr hp => exact ⟨.inl ⟨hp, rfl⟩, rfl, rfl, rfl, rfl⟩
  | rxErr hp => exact ⟨.inr ⟨hp, rfl⟩, rfl, rfl, rfl, rfl⟩
  | cfgWait | txDone | txPart | rxPart | tickIdle | tickGuard | tickRead | tickSettle => exact absurd rfl hne
  | start | txIncomplete | rxOk | rxIncomplete | tickTimeout | tickOk | reset => cases ht
  | rxDev _ _ _ st hkind =>
    cases (ht : st = .ioError)
    cases hkind
  | rxProbe => rw [raiseWithValue_status] at ht; split at ht <;> cases ht

/-- INCOMPLETE is raised by the tenth answer without progress alone (R135, R146, D6). -/
theorem Applied.cause_of_incomplete (hs : Legal s) (ht : t.status = .incomplete) :
    (s.phase = .tx ∧ e = .txAns 0 ∨ s.phase = .rx ∧ e = .rxAns []) ∧ s.retries.toNat = 9 ∧ t.retries.toNat = 10 ∧
      t.rb = s.rb ∧ t.txOff = s.txOff ∧ t.rxCnt = s.rxCnt := by
  cases h with
  | txIncomplete hp hk hr =>
    have hlt := hs.retries_lt (.inl hp)
    have hret := (acceptBytes_retries_toNat hlt _).trans hr
    obtain ⟨rfl, hnine⟩ := retriesAfter_eq_ten hlt hr
    exact ⟨.inl ⟨hp, rfl⟩, Nat.succ.inj hnine, hret, rfl, acceptBytes_zero_txOff s, rfl⟩
  | rxIncomplete hp hk hr =>
    have hlt := hs.retries_lt (.inr hp)
    have hret := (deliverBytes_retries_toNat hlt _).trans hr
    obtain ⟨hlen, hnine⟩ := retriesAfter_eq_ten hlt hr
    cases List.length_eq_zero_iff.1 hlen
    exact ⟨.inr ⟨hp, rfl⟩, Nat.succ.inj hnine, hret, rfl, rfl, deliverBytes_nil_rxCnt s⟩
  | cfgWait | txDone | txPart | rxPart | tickIdle | tickGuard | tickRead | tickSettle => exact absurd rfl hne
  | start | txErr | rxOk | rxErr | tickTimeout | tickOk | reset => cases ht
  | rxDev _ _ _ st hkind =>
    cases (ht : st = .incomplete)
    cases hkind
  | rxProbe => rw [raiseWithValue_status] at ht; split at ht <;> cases ht

/-- What the TICK that raises TIMEOUT leaves recorded (R140, R151). -/
theorem Applied.record_of_timeout (ht : t.status = .timeout) :
    t.rb = s.rb ∧ t.txOff = s.txOff ∧ t.rxCnt = s.rxCnt ∧ t.retries = s.retries ∧ t.gCnt = s.gCnt ∧
      t.wait = s.wait := by
  obtain ⟨rfl, -, -⟩ := h.cause_of_timeout hne ht
  cases h with
  | tickTimeout => exact ⟨rfl, rfl, rfl, rfl, rfl, rfl⟩
  | tickIdle | tickGuard | tickRead | tickSettle => exact absurd rfl hne
  | tickOk => cases ht

/-- A transport failure stands in a channel call, and TX_OFF is kept (R240, R241). -/
theorem Applied.cause_of_transport (hs : Legal s) (hk : statusKind t.status = .transport) :
    (s.phase = .tx ∨ s.phase = .rx) ∧ t.txOff = s.txOff := by
  cases hst : t.status with
  | ioError =>
    obtain ⟨hcause, -, hoff, -⟩ := h.cause_of_ioError hne hst
    exact ⟨hcause.imp And.left And.left, hoff⟩
  | incomplete =>
    obtain ⟨hcause, -, -, -, hoff, -⟩ := h.cause_of_incomplete hne hs hst
    exact ⟨hcause.imp And.left And.left, hoff⟩
  | timeout =>
    obtain ⟨-, hp, -⟩ := h.cause_of_timeout hne hst
    obtain ⟨-, hoff, -⟩ := h.record_of_timeout hne hst
    exact ⟨hp, hoff⟩
  | none | ok | devTimeout | devChecksum | devUnrecognized | devNoReply | devReplyError | devOther | testFailed =>
    rw [hst] at hk
    cases hk

/-- The recorded TX_OFF tells a failed write_all from a failed read_exact (R241). -/
theorem Applied.failedStage_iff (hs : Legal s) (hk : statusKind t.status = .transport) :
    failedStage t = some .writeAll ↔ s.phase = .tx := by
  obtain ⟨hp, hoff⟩ := h.cause_of_transport hne hs hk
  rw [failedStage_eq_writeAll_iff hk, hoff]
  refine ⟨fun hlt => hp.resolve_right fun hrx => ?_, hs.txOff_lt⟩
  exact absurd (hs.txOff_eq (.inr hrx)) hlt.ne

/-- A DEV_ value is the verdict of decode_response on the complete response of a read (R114, R178). -/
theorem Applied.cause_of_protocol (hs : Legal s) (hk : statusKind t.status = .protocol) :
    s.phase = .rx ∧ (∃ bs, e = .rxAns bs) ∧ isReadOp s.curOp = true ∧ t.rxCnt.toNat = 2 ∧
      decodeResponse s.cfg.toConfig t.rb.b0 t.rb.b1 = .err t.status := by
  cases h with
  | rxDev hp hcomplete hread st _ _ hd =>
    have hcnt := deliverBytes_rxCnt_eq_rxLen hcomplete
    have hlen : s.rxLen = 2 := (hs.rxLen_eq_rxLenOf (by simp [hp])).trans (rxLenOf_read hread)
    exact ⟨hp, ⟨_, rfl⟩, hread, congrArg BitVec.toNat (hcnt.trans hlen), hd⟩
  | cfgWait | txDone | txPart | rxPart | tickIdle | tickGuard | tickRead | tickSettle => exact absurd rfl hne
  | start | txIncomplete | txErr | rxOk | rxIncomplete | rxErr | tickTimeout | tickOk | reset => cases hk
  | rxProbe => rw [raiseWithValue_status] at hk; split at hk <;> cases hk

/-- TEST_FAILED is the verdict of probe_ok on the byte of PROBE (R116, R178). -/
theorem Applied.cause_of_testFailed (hs : Legal s) (ht : t.status = .testFailed) :
    s.phase = .rx ∧ (∃ bs, e = .rxAns bs) ∧ s.curOp = .probe ∧ t.rxCnt.toNat = 1 ∧ t.rb.b0 ≠ 0x80 ∧
      t.value = t.rb.b0 := by
  cases h with
  | rxProbe hp hcomplete hprobe =>
    have hop := hs.curOp_eq_probe hp hprobe
    have hcnt := deliverBytes_rxCnt_eq_rxLen hcomplete
    have hlen : s.rxLen = 1 := (hs.rxLen_eq_rxLenOf (by simp [hp])).trans (by rw [hop]; rfl)
    exact ⟨hp, ⟨_, rfl⟩, hop, congrArg BitVec.toNat (hcnt.trans hlen), probeVerdict_eq_testFailed_iff.1 ht, rfl⟩
  | cfgWait | txDone | txPart | rxPart | tickIdle | tickGuard | tickRead | tickSettle => exact absurd rfl hne
  | start | txIncomplete | txErr | rxOk | rxIncomplete | rxErr | tickTimeout | tickOk | reset => cases ht
  | rxDev _ _ _ st hkind =>
    cases (ht : st = .testFailed)
    cases hkind

/-- The two causes of OK: the settle delay of an operation without a response, and a response judged OK (R142, R178). -/
theorem Applied.cause_of_ok (hs : Legal s) (ht : t.status = .ok) :
    (s.phase = .settle ∧ e = .tick ∧ s.sCnt.toNat + 1 = Config.settleTicks ∧ s.rxLen = 0) ∨
    (s.phase = .rx ∧ (∃ bs, e = .rxAns bs ∧ s.rxCnt.toNat + bs.length = s.rxLen.toNat) ∧ t.rxCnt = s.rxLen ∧
      (isReadOp s.curOp = true ∧ t.rb.b0 = 0xC8 ∧ t.value = t.rb.b1 ∨
        s.curOp = .probe ∧ t.rb.b0 = 0x80 ∧ t.value = 0x80)) := by
  cases h with
  | tickOk hp hc hl => exact .inl ⟨hp, rfl, hc, hl⟩
  | rxOk hp hk hread hb =>
    exact .inr ⟨hp, ⟨_, rfl, hk⟩, deliverBytes_rxCnt_eq_rxLen hk, .inl ⟨hread, hb, rfl⟩⟩
  | @rxProbe bs hp hk hprobe =>
    have hb : (deliverBytes bs s).rb.b0 = 0x80 := probeVerdict_eq_ok_iff.1 ht
    exact .inr ⟨hp, ⟨_, rfl, hk⟩, deliverBytes_rxCnt_eq_rxLen hk, .inr ⟨hs.curOp_eq_probe hp hprobe, hb, hb⟩⟩
  | cfgWait | txDone | txPart | rxPart | tickIdle | tickGuard | tickRead | tickSettle => exact absurd rfl hne
  | start | txIncomplete | txErr | rxIncomplete | rxErr | tickTimeout | reset => cases ht
  | rxDev _ _ _ st hkind =>
    cases (ht : st = .ok)
    cases hkind

end

/-- Settles O43: the causes of the single STATUS values, and what their steps record. -/
theorem causesOfEveryStatus : Obligations.CausesOfEveryStatus := by
  intro s t e hs hstep hne hnone
  have h := step_feed_applied hstep
  obtain ⟨hidle, hcan, hop⟩ := h.raised hne hs hnone
  refine ⟨hidle, hcan, hop, h.cause_of_ioError hne, h.cause_of_incomplete hne hs, fun ht => ?_,
    h.failedStage_iff hne hs, h.cause_of_protocol hne hs, h.cause_of_testFailed hne hs, h.cause_of_ok hne hs⟩
  obtain ⟨he, hp, hg⟩ := h.cause_of_timeout hne ht
  obtain ⟨hrb, hoff, hcnt, hret, hgcnt, hwait⟩ := h.record_of_timeout hne ht
  exact ⟨hp, he, hrb, hoff, hcnt, hret, hgcnt, by rw [hgcnt, hwait]; omega⟩

end Sys2Proof.Machine
end

section
/-! Runs of answers to a write: how many there can be (R156), and what the link has accepted after them (R134, R135). -/

namespace Sys2Proof.Machine

/-! ## A run that goes through performs its inputs one by one -/

theorem runEvents_cons_some {e : Event} {es : List Event} {s t : State} (h : runEvents (e :: es) s = some t) :
    ∃ s', Applied s e s' ∧ runEvents es s' = some t := by
  rw [runEvents] at h
  cases ha : applyEvent e s with
  | next s' =>
    rw [ha] at h
    exact ⟨s', applyEvent_applied ha, h⟩
  | fault r => cases r
  | refused r => rw [ha] at h; cases h

/-- The converse of `steps_feed`: a run over a list of inputs that ends has performed them all. -/
theorem runEvents_of_steps_feed {es : List Event} {s t : State} (h : steps es.length (feed es s) = .next t) :
    runEvents es s = some t := by
  induction es generalizing s with
  | nil =>
    cases h
    rfl
  | cons e es ih =>
    rcases applied_or_refuses s e with ⟨s', hs'⟩ | ⟨r, hr⟩
    · have hinputs : s'.withInputs (es ++ s.events) = feed es s' := by rw [← applied_events hs']; rfl
      rw [List.length_cons, steps_feed_cons hs'.applyEvent_eq, hinputs] at h
      rw [runEvents_cons hs'.applyEvent_eq]
      exact ih h
    · have hstep : step (feed (e :: es) s) = .refused r := by
        show applyEvent e (s.withInputs (es ++ s.events)) = _
        rw [applyEvent_withInputs, hr.applyEvent_eq]
        rfl
      rw [List.length_cons, steps, hstep] at h
      cases h

/-! ## How many answers a write can take -/

/-- Outside PHASE TX no further answer to a write goes through (R134). -/
theorem eq_nil_of_runEvents_txAns {ks : List Nat} {s t : State} (hp : s.phase ≠ .tx)
    (h : runEvents (ks.map .txAns) s = some t) : ks = [] ∧ t = s := by
  cases ks with
  | nil => exact ⟨rfl, (Option.some.inj h).symm⟩
  | cons k ks =>
    obtain ⟨s', hs', -⟩ := runEvents_cons_some h
    have hrefused := (Refuses.txAns (k := k) hp).applyEvent_eq
    rw [hs'.applyEvent_eq] at hrefused
    cases hrefused

/-- Every answer but the last moves the offset or the retry counter on, and both have an end (R156, D6). -/
theorem length_le_of_runEvents_txAns {ks : List Nat} {s t : State} (hp : s.phase = .tx) (hoff : s.txOff.toNat < 4)
    (hret : s.retries.toNat < 10) (h : runEvents (ks.map .txAns) s = some t) :
    ks.length ≤ (4 - s.txOff.toNat) + (9 - s.retries.toNat) := by
  induction ks generalizing s with
  | nil => exact Nat.zero_le _
  | cons k ks ih =>
    obtain ⟨s', hs', hrest⟩ := runEvents_cons_some h
    cases hs' with
    | txDone | txIncomplete =>
      obtain ⟨rfl, -⟩ := eq_nil_of_runEvents_txAns (by simp) hrest
      rw [List.length_singleton]
      omega
    | txPart _ hk hr =>
      have hoff' := acceptBytes_txOff_toNat hk.le
      have hret' := acceptBytes_retries_toNat hret k
      have hle := retriesAfter_le s k
      have := ih (s := acceptBytes k s) hp (by omega) (by omega) hrest
      rw [List.length_cons]
      rcases Nat.eq_zero_or_pos k with rfl | hpos
      · rw [retriesAfter_zero] at hr hret'
        omega
      · rw [retriesAfter_pos s hpos.ne'] at hret'
        omega

/-- Settles O48: from the entry to write_all the offset has four bytes to go and the retry counter nine counts. -/
theorem writeAllAnswerBound : Obligations.WriteAllAnswerBound := by
  intro s t ks hp hoff hret h
  have hrun : runEvents (ks.map .txAns) s = some t := runEvents_of_steps_feed (by rwa [List.length_map])
  have hlen := length_le_of_runEvents_txAns hp (by simp [hoff]) (by simp [hret]) hrun
  rw [hoff, hret] at hlen
  exact hlen

/-! ## What a write has done after its answers -/

/-- The state after answers that the link gave with these counts, the operation still in write_all: the offset and the
retries add up, and TX has gained the bytes in order (R134, R135). -/
def written (ks : List Nat) (s : State) : State :=
  { s with
    txOff := BitVec.ofNat 3 (s.txOff.toNat + ks.sum)
    retries := BitVec.ofNat 4 (s.retries.toNat + ks.count 0)
    txStream := s.txStream ++ (offered s).take ks.sum }

theorem written_nil (s : State) : written [] s = s := by simp [written]

theorem offered_acceptBytes {k : Nat} {s : State} (hk : s.txOff.toNat + k ≤ 4) :
    offered (acceptBytes k s) = (offered s).drop k := by
  rw [offered, offered, acceptBytes_txOff_toNat hk, List.drop_drop, acceptBytes_fr]

/-- The retries add up answer by answer (R26, D6). -/
theorem retriesAfter_add_count (s : State) (k : Nat) (ks : List Nat) :
    retriesAfter s k + ks.count 0 = s.retries.toNat + (k :: ks).count 0 := by
  rw [retriesAfter, List.count_cons]
  simp only [beq_iff_eq]
  omega

theorem written_cons {k : Nat} {s : State} (hk : s.txOff.toNat + k ≤ 4) (ks : List Nat) :
    written (k :: ks) s = written ks (acceptBytes k s) := by
  have hret : BitVec.ofNat 4 (s.retries.toNat + (k :: ks).count 0) =
      BitVec.ofNat 4 ((acceptBytes k s).retries.toNat + ks.count 0) := by
    rw [← retriesAfter_add_count, acceptBytes_retries]
    exact BitVec.eq_of_toNat_eq (by simp)
  rw [written, written, hret, offered_acceptBytes hk, acceptBytes_txOff_toNat hk, acceptBytes_txStream, List.sum_cons,
    List.take_add, List.append_assoc, Nat.add_assoc]
  rfl

theorem written_txOff_toNat {ks : List Nat} {s : State} (h : s.txOff.toNat + ks.sum ≤ 4) :
    (written ks s).txOff.toNat = s.txOff.toNat + ks.sum := Nat.mod_eq_of_lt (by omega)

/-- After any answers from PHASE TX the bytes are those of `written`, and the write is going on, complete, or ended
without being complete. -/
theorem runEvents_txAns_cases {ks : List Nat} {s t : State} (hp : s.phase = .tx) (hoff : s.txOff.toNat < 4)
    (h : runEvents (ks.map .txAns) s = some t) :
    (s.txOff.toNat + ks.sum < 4 ∧ t = written ks s) ∨
    (s.txOff.toNat + ks.sum = 4 ∧ t = settleEntry (written ks s)) ∨
    (s.txOff.toNat + ks.sum < 4 ∧ t = raise .incomplete (disarm (written ks s))) := by
  induction ks generalizing s with
  | nil =>
    rw [written_nil]
    exact .inl ⟨hoff, (Option.some.inj h).symm⟩
  | cons k ks ih =>
    obtain ⟨s', hs', hrest⟩ := runEvents_cons_some h
    cases hs' with
    | txDone _ hk =>
      obtain ⟨rfl, rfl⟩ := eq_nil_of_runEvents_txAns (by simp) hrest
      rw [written_cons hk.le, written_nil]
      exact .inr (.inl ⟨hk, rfl⟩)
    | txIncomplete _ hk =>
      obtain ⟨rfl, rfl⟩ := eq_nil_of_runEvents_txAns (by simp) hrest
      rw [written_cons hk.le, written_nil]
      exact .inr (.inr ⟨hk, rfl⟩)
    | txPart _ hk =>
      have hoff' := acceptBytes_txOff_toNat hk.le
      have hcases := ih (s := acceptBytes k s) hp (by omega) hrest
      rwa [hoff', Nat.add_assoc, ← List.sum_cons, ← written_cons hk.le] at hcases

/-- Settles O50: whichever of the three ways the write went, TX_OFF and TX are those of `written` from offset 0. -/
theorem txReceivesTheFrameInOrder : Obligations.TxReceivesTheFrameInOrder := by
  intro s t ks hp hoff h
  have hoff0 : s.txOff.toNat = 0 := by rw [hoff]; rfl
  have hrun : runEvents (ks.map .txAns) s = some t := runEvents_of_steps_feed (by rwa [List.length_map])
  have hcases := runEvents_txAns_cases hp (by omega) hrun
  have htx : (written ks s).txStream = s.txStream ++ s.fr.bytes.take ks.sum := by
    show s.txStream ++ (s.fr.bytes.drop s.txOff.toNat).take ks.sum = _
    rw [hoff0, List.drop_zero]
  have hle : s.txOff.toNat + ks.sum ≤ 4 := by omega
  have htxOff : (written ks s).txOff.toNat = ks.sum := by rw [written_txOff_toNat hle, hoff0, Nat.zero_add]
  rcases hcases with ⟨hsum, rfl⟩ | ⟨hsum, rfl⟩ | ⟨hsum, rfl⟩
  · refine ⟨htxOff, htx, fun _ => ?_, ?_⟩
    · rw [outstanding, show (written ks s).phase = .tx from hp, offered, htxOff]
      rfl
    · rw [show (written ks s).phase = .tx from hp]
      exact iff_of_false nofun (by omega)
  · exact ⟨htxOff, htx, nofun, iff_of_true rfl (by omega)⟩
  · exact ⟨htxOff, htx, nofun, iff_of_false nofun (by omega)⟩

end Sys2Proof.Machine
end

section
/-! Runs of answers to a read: how many there can be (R156). -/

namespace Sys2Proof.Machine

/-- Outside PHASE RX no further answer to a read goes through (R144). -/
theorem eq_nil_of_runEvents_rxAns {bss : List (List Byte)} {s t : State} (hp : s.phase ≠ .rx)
    (h : runEvents (bss.map .rxAns) s = some t) : bss = [] := by
  cases bss with
  | nil => rfl
  | cons bs bss =>
    obtain ⟨s', hs', -⟩ := runEvents_cons_some h
    have hrefused := (Refuses.rxAns (bs := bs) hp).applyEvent_eq
    rw [hs'.applyEvent_eq] at hrefused
    cases hrefused

/-- Every answer but the last moves the count or the retry counter on, and both have an end (R156, D6). -/
theorem length_le_of_runEvents_rxAns {bss : List (List Byte)} {s t : State} (hp : s.phase = .rx)
    (hcnt : s.rxCnt.toNat < s.rxLen.toNat) (hret : s.retries.toNat < 10)
    (h : runEvents (bss.map .rxAns) s = some t) :
    bss.length ≤ (s.rxLen.toNat - s.rxCnt.toNat) + (9 - s.retries.toNat) := by
  induction bss generalizing s with
  | nil => exact Nat.zero_le _
  | cons bs bss ih =>
    obtain ⟨s', hs', hrest⟩ := runEvents_cons_some h
    cases hs' with
    | rxOk | rxDev | rxProbe | rxIncomplete =>
      obtain rfl := eq_nil_of_runEvents_rxAns (by simp) hrest
      rw [List.length_singleton]
      omega
    | rxPart _ hk hr =>
      have hcnt' := deliverBytes_rxCnt_toNat hk.le
      have hret' := deliverBytes_retries_toNat hret bs
      have hlen : (deliverBytes bs s).rxLen = s.rxLen := rfl
      have hle := retriesAfter_le s bs.length
      have := ih (s := deliverBytes bs s) hp (by rw [hlen]; omega) (by omega) hrest
      rw [hlen] at this
      rw [List.length_cons]
      rcases Nat.eq_zero_or_pos bs.length with h0 | hpos
      · rw [h0, retriesAfter_zero] at hr hret'
        omega
      · rw [retriesAfter_pos s hpos.ne'] at hret'
        omega

/-- Settles O49: from the entry to read_exact the count has RX_LEN bytes to go and the retry counter nine counts. -/
theorem readExactAnswerBound : Obligations.ReadExactAnswerBound := by
  intro s t bss hp hcnt hret hlen h
  have hpos : 0 < s.rxLen.toNat := toNat_pos_of_ne_zero hlen
  have hrun : runEvents (bss.map .rxAns) s = some t := runEvents_of_steps_feed (by rwa [List.length_map])
  have hbound := length_le_of_runEvents_rxAns hp (by simpa [hcnt] using hpos) (by simp [hret]) hrun
  rw [hcnt, hret] at hbound
  exact hbound

end Sys2Proof.Machine
end

section
/-! Whole operations, from START to their completion (R170 to R178): write_all, the settle delay, read_exact. -/

namespace Sys2Proof.Machine

/-! ## write_all to its end -/

theorem sum_ne_zero_of_getLast? {ks : List Nat} (hne : ks ≠ []) (hlast : ks.getLast? ≠ some 0) : ks.sum ≠ 0 := by
  intro hsum
  have hzero : ks.getLast hne = 0 := List.sum_eq_zero_iff.1 hsum _ (List.getLast_mem hne)
  exact hlast (by rw [List.getLast?_eq_some_getLast hne, hzero])

theorem getLast?_ne_of_cons {α : Type} {a x : α} {l : List α} (hne : l ≠ []) (h : (a :: l).getLast? ≠ some x) :
    l.getLast? ≠ some x := by
  rwa [List.getLast?_cons_of_ne_nil hne] at h

/-- Answers that move the whole frame, the last one with progress and at most nine of them empty, complete the write
(R135, D6). -/
theorem runEvents_txAns_done {ks : List Nat} {s : State} (hp : s.phase = .tx) (hoff : s.txOff.toNat < 4)
    (hsum : s.txOff.toNat + ks.sum = 4) (hlast : ks.getLast? ≠ some 0) (hcount : s.retries.toNat + ks.count 0 ≤ 9) :
    runEvents (ks.map .txAns) s = some (settleEntry (written ks s)) := by
  induction ks generalizing s with
  | nil => rw [List.sum_nil] at hsum; omega
  | cons k ks ih =>
    rw [List.sum_cons, ← Nat.add_assoc] at hsum
    rw [written_cons (by omega), List.map_cons]
    rcases eq_or_ne ks [] with rfl | hne
    · rw [runEvents_cons (Applied.txDone hp hsum).applyEvent_eq, written_nil]
      rfl
    · have hlast' := getLast?_ne_of_cons hne hlast
      have hpos := sum_ne_zero_of_getLast? hne hlast'
      have hadd := retriesAfter_add_count s k ks
      have hoff' := acceptBytes_txOff_toNat (s := s) (k := k) (by omega)
      have hret' := acceptBytes_retries_toNat (s := s) (by omega) k
      rw [runEvents_cons (Applied.txPart hp (by omega) (by omega)).applyEvent_eq]
      exact ih hp (by omega) (by omega) hlast' (by omega)

/-! ## read_exact to its end -/

/-- The state after answers that delivered these bytes, the operation still in read_exact: RB holds them from RX_CNT
on, and the count and the retries add up (R144, R146). -/
def received (bss : List (List Byte)) (s : State) : State :=
  { s with
    rb := rbStore s.rb s.rxCnt.toNat bss.flatten
    rxCnt := BitVec.ofNat 2 (s.rxCnt.toNat + bss.flatten.length)
    retries := BitVec.ofNat 4 (s.retries.toNat + bss.count [])
    rxTaken := s.rxTaken ++ bss.flatten }

theorem received_nil (s : State) : received [] s = s := by simp [received, rbStore]

theorem rbStore_append (rb : RespBuf) (i : Nat) (bs bs' : List Byte) :
    rbStore rb i (bs ++ bs') = rbStore (rbStore rb i bs) (i + bs.length) bs' := by
  induction bs generalizing rb i with
  | nil => rfl
  | cons b bs ih => rw [List.cons_append, rbStore, rbStore, ih, List.length_cons, Nat.add_right_comm, Nat.add_assoc]

theorem retriesAfter_length_add_count (s : State) (bs : List Byte) (bss : List (List Byte)) :
    retriesAfter s bs.length + bss.count [] = s.retries.toNat + (bs :: bss).count [] := by
  rw [retriesAfter, List.count_cons]
  simp only [beq_iff_eq, List.length_eq_zero_iff]
  omega

theorem received_cons {bs : List Byte} {s : State} (hk : s.rxCnt.toNat + bs.length ≤ s.rxLen.toNat)
    (bss : List (List Byte)) : received (bs :: bss) s = received bss (deliverBytes bs s) := by
  have hret : BitVec.ofNat 4 (s.retries.toNat + (bs :: bss).count []) =
      BitVec.ofNat 4 ((deliverBytes bs s).retries.toNat + bss.count []) := by
    rw [← retriesAfter_length_add_count, deliverBytes_retries]
    exact BitVec.eq_of_toNat_eq (by simp)
  rw [received, received, hret, deliverBytes_rxCnt_toNat hk, deliverBytes_rb, deliverBytes_rxTaken, List.flatten_cons,
    rbStore_append, List.length_append, List.append_assoc, Nat.add_assoc]
  rfl

theorem flatten_ne_nil_of_getLast? {bss : List (List Byte)} (hne : bss ≠ []) (hlast : bss.getLast? ≠ some []) :
    bss.flatten ≠ [] := by
  intro hnil
  have hlast' : bss.getLast hne = [] := List.flatten_eq_nil_iff.1 hnil _ (List.getLast_mem hne)
  exact hlast (by rw [List.getLast?_eq_some_getLast hne, hlast'])

/-- Answers that deliver the whole response, the last one with progress and at most nine of them empty, lead to its
judgement (R146, R178, D6). -/
theorem runEvents_rxAns_done {bss : List (List Byte)} {s t : State} (hp : s.phase = .rx)
    (hcnt : s.rxCnt.toNat < s.rxLen.toNat) (hsum : s.rxCnt.toNat + bss.flatten.length = s.rxLen.toNat)
    (hlast : bss.getLast? ≠ some []) (hcount : s.retries.toNat + bss.count [] ≤ 9)
    (hjudge : judge (disarm (received bss s)) = .next t) : runEvents (bss.map .rxAns) s = some t := by
  induction bss generalizing s with
  | nil => rw [List.flatten_nil, List.length_nil] at hsum; omega
  | cons bs bss ih =>
    rw [List.flatten_cons, List.length_append, ← Nat.add_assoc] at hsum
    rw [received_cons (by omega)] at hjudge
    rw [List.map_cons]
    rcases eq_or_ne bss [] with rfl | hne
    · rw [received_nil] at hjudge
      have hcomplete : applyEvent (.rxAns bs) s = .next t := (step_rxAns_complete hp hsum).trans hjudge
      rw [runEvents_cons hcomplete]
      rfl
    · have hlast' := getLast?_ne_of_cons hne hlast
      have hpos := List.length_pos_of_ne_nil (flatten_ne_nil_of_getLast? hne hlast')
      have hadd := retriesAfter_length_add_count s bs bss
      have hcnt' := deliverBytes_rxCnt_toNat (s := s) (bs := bs) (by omega)
      have hret' := deliverBytes_retries_toNat (s := s) (by omega) bs
      have hlen : (deliverBytes bs s).rxLen = s.rxLen := rfl
      rw [runEvents_cons (Applied.rxPart hp (by omega) (by omega)).applyEvent_eq]
      exact ih hp (by rw [hlen]; omega) (by rw [hlen]; omega) hlast' (by omega) hjudge

/-! ## The settle delay to its end -/

/-- The 200 TICKs of the settle delay (R142, D21). -/
theorem runEvents_ticks_settled {s : State} (hp : s.phase = .settle) (h0 : s.sCnt = 0) :
    runEvents (ticks 200) s = some (settleTick (settling 199 s)) := by
  rw [ticks_succ', runEvents_append, runEvents_ticks_settling hp h0 (by decide), Option.bind_some,
    runEvents_cons (applyEvent_tick_settle (s := settling 199 s) hp)]
  rfl

theorem opOfSelector_selectorOf (op : Op) : opOfSelector (selectorOf op) = some op := by cases op <;> rfl

/-- Where START, the answers that move the frame and 199 TICKs of the settle delay have brought an operation. -/
def frameSent (op : Op) (loc data : Byte) (ks : List Nat) (s : State) : State :=
  settling 199 (settleEntry (written ks
    (started op (frameOf s.cfg.toConfig op loc data) (rxLenOf op) (Config.freeByte s.freeCount) (s.freeCount + 1) s)))

/-- The first half of every operation: START, answers that move the frame, and the settle delay (R170, R135, R142). -/
theorem runEvents_frameSent {s : State} {ks : List Nat} (hp : s.phase = .idle) (hsum : ks.sum = 4)
    (hlast : ks.getLast? ≠ some 0) (hcount : ks.count 0 ≤ 9) (op : Op) (loc data : Byte) :
    runEvents (.start (selectorOf op) loc data :: (ks.map .txAns ++ ticks 200)) s =
      some (settleTick (frameSent op loc data ks s)) := by
  have hstart := (Applied.start (loc := loc) (data := data) hp (opOfSelector_selectorOf op)).applyEvent_eq
  rw [runEvents_cons hstart, runEvents_append,
    runEvents_txAns_done rfl (by simp) (by simpa using hsum) hlast (by simpa using hcount), Option.bind_some,
    runEvents_ticks_settled rfl rfl]
  rfl

theorem frameSent_txStream {ks : List Nat} (hsum : ks.sum = 4) (op : Op) (loc data : Byte) (s : State) :
    (frameSent op loc data ks s).txStream = s.txStream ++ (frameOf s.cfg.toConfig op loc data).bytes := by
  show s.txStream ++ ((frameOf s.cfg.toConfig op loc data).bytes.drop 0).take ks.sum = _
  rw [hsum]
  rfl

theorem frameSent_txOff {ks : List Nat} (hsum : ks.sum = 4) (op : Op) (loc data : Byte) (s : State) :
    (frameSent op loc data ks s).txOff = 4 := by
  show BitVec.ofNat 3 (0 + ks.sum) = 4
  rw [hsum]
  rfl

theorem frameSent_retries (op : Op) (loc data : Byte) (ks : List Nat) (s : State) :
    (frameSent op loc data ks s).retries = BitVec.ofNat 4 (ks.count 0) := by
  show BitVec.ofNat 4 (0 + ks.count 0) = _
  rw [Nat.zero_add]

theorem ticks_length (n : Nat) : (ticks n).length = n := List.length_replicate

/-- A run over a list of inputs of known length. -/
theorem steps_feed_of_length {es : List Event} {s t : State} {n : Nat} (h : runEvents es s = some t)
    (hn : es.length = n) : steps n (feed es s) = .next t := hn ▸ steps_feed h

/-- Settles O51: an operation without a response is OK at the end of its settle delay. -/
theorem writeOperationRuns : Obligations.WriteOperationRuns := by
  intro s op loc data ks hp hop hsum hlast hcount
  have hrun := runEvents_frameSent hp hsum hlast hcount op loc data
  rw [settleTick_ok rfl (rxLenOf_writeType hop)] at hrun
  refine ⟨_, steps_feed_of_length hrun ?_, rfl, rfl, rfl, rfl, rfl, frameSent_txOff hsum .., frameSent_retries ..,
    frameSent_txStream hsum .., rfl, rfl, rfl, rfl⟩
  simp only [List.length_cons, List.length_append, List.length_map, ticks_length]
  omega

/-! ## Operations with a response -/

/-- Where the answers that deliver the response have brought an operation: due for judgement, the guard off (R146). -/
def responseIn (op : Op) (loc data : Byte) (ks : List Nat) (bss : List (List Byte)) (s : State) : State :=
  disarm (received bss (readExactEntry (frameSent op loc data ks s)))

theorem responseIn_rxCnt (op : Op) (loc data : Byte) (ks : List Nat) (bss : List (List Byte)) (s : State) :
    (responseIn op loc data ks bss s).rxCnt = BitVec.ofNat 2 bss.flatten.length := by
  show BitVec.ofNat 2 (0 + bss.flatten.length) = _
  rw [Nat.zero_add]

theorem responseIn_retries (op : Op) (loc data : Byte) (ks : List Nat) (bss : List (List Byte)) (s : State) :
    (responseIn op loc data ks bss s).retries = BitVec.ofNat 4 (bss.count []) := by
  show BitVec.ofNat 4 (0 + bss.count []) = _
  rw [Nat.zero_add]

/-- The bytes of the response are in RB and taken from the RX stream (R144, R146). -/
theorem responseIn_bytes {bss : List (List Byte)} {bs : List Byte} (h : bss.flatten = bs) (op : Op) (loc data : Byte)
    (ks : List Nat) (s : State) :
    (responseIn op loc data ks bss s).rb = rbStore s.rb 0 bs ∧
      (responseIn op loc data ks bss s).rxTaken = s.rxTaken ++ bs := by
  subst h
  exact ⟨rfl, rfl⟩

/-- The whole of an operation with a response: START, the answers that move the frame, the settle delay, the answers
that deliver the response, and its judgement (R170, R135, R142, R146, R178). -/
theorem steps_operation {s t : State} {ks : List Nat} {bss : List (List Byte)} {op : Op} {loc data : Byte}
    (hp : s.phase = .idle) (hsum : ks.sum = 4) (hlast : ks.getLast? ≠ some 0) (hcount : ks.count 0 ≤ 9)
    (hlen : bss.flatten.length = (rxLenOf op).toNat) (hpos : 0 < (rxLenOf op).toNat) (hlast' : bss.getLast? ≠ some [])
    (hcount' : bss.count [] ≤ 9) (hjudge : judge (responseIn op loc data ks bss s) = .next t) :
    steps (1 + ks.length + 200 + bss.length)
      (feed (.start (selectorOf op) loc data :: (ks.map .txAns ++ ticks 200 ++ bss.map .rxAns)) s) = .next t := by
  have hne : rxLenOf op ≠ 0 := by
    rintro h
    simp [h] at hpos
  have hread : runEvents (bss.map .rxAns) (readExactEntry (frameSent op loc data ks s)) = some t :=
    runEvents_rxAns_done rfl hpos ((Nat.zero_add _).trans hlen) hlast' (by simpa using hcount') hjudge
  refine steps_feed_of_length ?_ ?_
  · rw [← List.cons_append, runEvents_append, runEvents_frameSent hp hsum hlast hcount,
      settleTick_readExactEntry rfl hne, Option.bind_some, hread]
  · simp only [List.length_cons, List.length_append, List.length_map, ticks_length]
    omega

/-- A judgement of a read gives the verdict of decode_response as STATUS, and as VALUE where it has a data byte
(R178). -/
theorem judge_read_due {s : State} (hdue : resp2Due s = true) :
    ∃ st v m, judge s = .next (ended st v m s) ∧
      (∀ w, decodeResponse s.cfg.toConfig s.rb.b0 s.rb.b1 = .ok w → st = .ok ∧ v = w) ∧
      ∀ st', decodeResponse s.cfg.toConfig s.rb.b0 s.rb.b1 = .err st' → st = st' := by
  cases hd : decodeResponse s.cfg.toConfig s.rb.b0 s.rb.b1 with
  | ok w => exact ⟨_, _, _, judge_read_ok hdue hd, fun w' h => ⟨rfl, Response.ok.inj h⟩, nofun⟩
  | err st => exact ⟨_, _, _, judge_read_err hdue hd, nofun, fun st' h => Response.err.inj h⟩

theorem isReadOp_of_mem {op : Op} (h : op ∈ [Op.readReg, .readEeprom]) : isReadOp op = true := by
  cases op with
  | readReg | readEeprom => rfl
  | writeReg | writeEeprom | shortPush | longPush | probe => simp at h

/-- A read has no data operand (R90, D8). -/
theorem frameOf_read {op : Op} (h : isReadOp op = true) (c : Config) (loc data : Byte) :
    frameOf c op loc data = frameOf c op loc 0 := by
  cases op with
  | readReg | readEeprom => rfl
  | writeReg | writeEeprom | shortPush | longPush | probe => cases h

/-- Settles O52: the two bytes of the response are judged by decode_response. -/
theorem readOperationRuns : Obligations.ReadOperationRuns := by
  intro s op loc data code x ks bss hp hop hsum hlast hcount hbytes hlast' hcount'
  have hread := isReadOp_of_mem hop
  have hlen : rxLenOf op = 2 := rxLenOf_read hread
  obtain ⟨hrb, htaken⟩ := responseIn_bytes hbytes op loc data ks s
  have hcnt : (responseIn op loc data ks bss s).rxCnt = 2 := by rw [responseIn_rxCnt, hbytes]; rfl
  have hdue : resp2Due (responseIn op loc data ks bss s) = true := resp2Due_iff.2 ⟨rfl, hcnt.trans hlen.symm, hread⟩
  obtain ⟨st, v, m, hjudge, hok, herr⟩ := judge_read_due hdue
  rw [hrb] at hok herr
  refine ⟨_, steps_operation hp hsum hlast hcount (by rw [hbytes, hlen]; rfl) (by rw [hlen]; decide) hlast' hcount'
      hjudge, rfl, rfl, rfl, frameOf_read hread .., ?_, hrb, hcnt, responseIn_retries .., ?_, htaken, rfl, rfl⟩
  · cases hd : decodeResponse s.cfg.toConfig code x with
    | ok w => exact hok w hd
    | err st' => exact herr st' hd
  · rw [← frameOf_read hread _ _ data]
    exact frameSent_txStream hsum ..

/-- Settles O53: the one byte of the response is judged by probe_ok, and RB[1] is not stored to. -/
theorem probeOperationRuns : Obligations.ProbeOperationRuns := by
  intro s loc data b ks bss hp hsum hlast hcount hbytes hlast' hcount'
  obtain ⟨hrb, htaken⟩ := responseIn_bytes hbytes .probe loc data ks s
  have hcnt : (responseIn .probe loc data ks bss s).rxCnt = 1 := by rw [responseIn_rxCnt, hbytes]; rfl
  have hjudge := judge_probe_due (resp1Due_iff.2 ⟨rfl, hcnt, rfl⟩)
  have hb : (responseIn .probe loc data ks bss s).rb.b0 = b := by rw [hrb]; rfl
  refine ⟨_, steps_operation (op := .probe) hp hsum hlast hcount (by rw [hbytes]; rfl) (by decide) hlast' hcount'
      hjudge, rfl, rfl, ?_, hb, hrb, hcnt, frameSent_txStream hsum .., htaken, rfl, rfl⟩
  rw [raiseWithValue_status, hb]
  simp only [probeOk_eq_true_iff]

end Sys2Proof.Machine
end

section
/-! Silence ends every operation (R156, R159): TICKs alone lead from any legal state to PHASE IDLE. -/

namespace Sys2Proof.Machine

/-- How many TICKs of a silent link the operation in flight can still take: what is left of WAIT in a channel call,
and before that what is left of the settle delay, which read_exact may follow (R140, R142, R151). -/
def ticksLeft (s : State) : Nat :=
  match s.phase with
  | .idle => 0
  | .tx | .rx => s.wait.toNat - s.gCnt.toNat
  | .settle => (200 - s.sCnt.toNat) + s.wait.toNat

theorem ticksLeft_idle {s : State} (hp : s.phase = .idle) : ticksLeft s = 0 := by rw [ticksLeft, hp]

theorem ticksLeft_call {s : State} (hp : s.phase = .tx ∨ s.phase = .rx) :
    ticksLeft s = s.wait.toNat - s.gCnt.toNat := by
  rcases hp with hp | hp <;> rw [ticksLeft, hp]

theorem ticksLeft_settle {s : State} (hp : s.phase = .settle) :
    ticksLeft s = (200 - s.sCnt.toNat) + s.wait.toNat := by rw [ticksLeft, hp]

theorem ticksLeft_le (s : State) : ticksLeft s ≤ s.wait.toNat + 200 := by
  cases hp : s.phase with
  | idle => rw [ticksLeft_idle hp]; omega
  | tx => rw [ticksLeft_call (.inl hp)]; omega
  | rx => rw [ticksLeft_call (.inr hp)]; omega
  | settle => rw [ticksLeft_settle hp]; omega

/-- A legal state with no TICK left is in PHASE IDLE. -/
theorem Legal.phase_eq_idle {s : State} (h : Legal s) (h0 : ticksLeft s = 0) : s.phase = .idle := by
  have hw := h.wait_pos
  cases hp : s.phase with
  | idle => rfl
  | tx =>
    have hlt := h.gCnt_lt (.inl hp)
    rw [ticksLeft_call (.inl hp)] at h0
    omega
  | rx =>
    have hlt := h.gCnt_lt (.inr hp)
    rw [ticksLeft_call (.inr hp)] at h0
    omega
  | settle =>
    rw [ticksLeft_settle hp] at h0
    omega

/-- A TICK uses one of those left, and moves no byte. -/
theorem Applied.tick_ticksLeft {s t : State} (h : Applied s .tick t) (hs : Legal s) :
    ticksLeft t ≤ ticksLeft s - 1 ∧ t.txStream = s.txStream ∧ t.rxTaken = s.rxTaken := by
  cases h with
  | tickIdle hp => exact ⟨by rw [ticksLeft_idle hp], rfl, rfl⟩
  | tickTimeout | tickOk => exact ⟨by rw [ticksLeft_idle rfl]; exact Nat.zero_le _, rfl, rfl⟩
  | tickGuard hp hg =>
    have hlt := hs.gCnt_lt hp
    refine ⟨?_, rfl, rfl⟩
    have hleft := ticksLeft_call (s := counted (s.gCnt.toNat + 1) s) hp
    rw [counted_gCnt_toNat (by omega)] at hleft
    rw [ticksLeft_call hp]
    exact hleft.trans_le (Nat.sub_add_eq ..).le
  | tickRead hp =>
    have hlt := hs.sCnt_lt hp
    have hleft : ticksLeft (readExactEntry s) = s.wait.toNat := ticksLeft_call (.inr rfl)
    refine ⟨?_, rfl, rfl⟩
    rw [hleft, ticksLeft_settle hp]
    omega
  | tickSettle hp hc =>
    have hlt := hs.sCnt_lt hp
    have hleft : ticksLeft (settling (s.sCnt.toNat + 1) s) = 200 - (settling (s.sCnt.toNat + 1) s).sCnt.toNat +
      s.wait.toNat := ticksLeft_settle hp
    rw [settling_sCnt_toNat (by omega)] at hleft
    refine ⟨hleft.trans_le ?_, rfl, rfl⟩
    rw [ticksLeft_settle hp]
    omega

/-- TICKs enough end whatever is in flight, and move no byte. -/
theorem exists_runEvents_ticks {n : Nat} {s : State} (hs : Legal s) (hn : ticksLeft s ≤ n) :
    ∃ t, runEvents (ticks n) s = some t ∧ Legal t ∧ t.phase = .idle ∧ t.txStream = s.txStream ∧
      t.rxTaken = s.rxTaken := by
  induction n generalizing s with
  | zero => exact ⟨s, rfl, hs, hs.phase_eq_idle (Nat.le_zero.1 hn), rfl, rfl⟩
  | succ n ih =>
    obtain ⟨s', hs'⟩ := exists_applied_tick s
    obtain ⟨hleft, htx, hrx⟩ := hs'.tick_ticksLeft hs
    obtain ⟨t, hrun, ht, hidle, htx', hrx'⟩ := ih (hs'.legal hs) (by omega)
    exact ⟨t, by rw [ticks_succ, runEvents_cons hs'.applyEvent_eq, hrun], ht, hidle, htx'.trans htx, hrx'.trans hrx⟩

/-- Settles O54: WAIT and the settle delay together are at least the TICKs left, and a legal state in IDLE has the
guard off. -/
theorem silenceEndsEveryOperation : Obligations.SilenceEndsEveryOperation := by
  intro s n hs hn
  obtain ⟨t, hrun, ht, hidle, htx, hrx⟩ := exists_runEvents_ticks hs ((ticksLeft_le s).trans hn)
  exact ⟨t, steps_ticks hrun, hidle, ht.gArmed_eq_false (.inl hidle), htx, hrx, runEvents_events hrun⟩

end Sys2Proof.Machine
end

section
/-! The host's programs (R205, R212 to R214, R216): the value conversions of setdaytime, save and restore, and how a
command ends. -/

namespace Sys2Proof.Machine

/-! ## gettime of setdaytime -/

/-- Settles O55: each byte fits its range, and hour * 10 + minute / 6 has the hour as its tens. -/
theorem gettimeOfSetdaytime : Obligations.GettimeOfSetdaytime := by
  intro w ⟨hday, hday', hhour, hminute, hsecond⟩
  have hday8 : (dayCode w).toNat = w.day - 1 := Nat.mod_eq_of_lt (by omega)
  have hhour8 : (hourCode w).toNat = w.hour * 10 + w.minute / 6 := Nat.mod_eq_of_lt (by omega)
  have hminute8 : (minuteCode w).toNat = w.minute % 6 := Nat.mod_eq_of_lt (by omega)
  have hsecond8 : (secondCode w).toNat = w.second := Nat.mod_eq_of_lt (by omega)
  refine ⟨?_, by omega⟩
  rw [timeOf, hhour8, hminute8, hsecond8, TimeOfDay.mk.injEq]
  omega

/-! ## save and restore -/

/-- Successful reads of a list of locations give its bytes, after those read before (R212). -/
theorem play_readAll {soFar locs image : List Byte} (h : image.length = locs.length) :
    play (readAll soFar locs) (image.map fun b => (.ok, b)) =
      (locs.map .readEeprom, .done (.configuration (soFar ++ image))) := by
  induction locs generalizing soFar image with
  | nil =>
    obtain rfl := List.length_eq_zero_iff.1 h
    simp [readAll]
  | cons loc locs ih =>
    obtain ⟨b, image, rfl⟩ := List.exists_cons_of_length_eq_add_one h
    have hrest := ih (soFar := soFar ++ [b]) (Nat.succ.inj h)
    rw [readAll, List.map_cons, play_run_ok, hrest, List.map_cons, List.append_assoc, List.singleton_append]

/-- Successful writes write each byte to its location (R213). -/
theorem play_writeAllCells {cells : List (Byte × Byte)} {rest : List Byte} (h : rest.length = cells.length) :
    play (writeAllCells cells) (rest.map fun b => (.ok, b)) =
      (cells.map fun c => .writeEeprom c.1 c.2, .done .nothing) := by
  induction cells generalizing rest with
  | nil =>
    obtain rfl := List.length_eq_zero_iff.1 h
    simp [writeAllCells]
  | cons c cells ih =>
    obtain ⟨b, rest, rfl⟩ := List.exists_cons_of_length_eq_add_one h
    rw [writeAllCells, List.map_cons, play_run_ok, ih (Nat.succ.inj h), List.map_cons]

theorem length_configLocations (h : HostConfig) : (configLocations h).length = 45 := by
  rw [configLocations_eq, List.length_map, List.length_range]

/-- The cells that restore writes: the k-th location with the k-th byte of the file (R213). -/
theorem zip_configLocations (h : HostConfig) {image : List Byte} (hlen : image.length = 45) :
    (configLocations h).zip image =
      (List.range 45).map fun k => (BitVec.ofNat 8 (h.configStart.toNat + k), image.getD k 0) := by
  rw [configLocations_eq]
  refine List.ext_getElem (by simp [hlen]) fun k hk _ => ?_
  have hk' : k < image.length := by simp [hlen] at hk; omega
  simp [hk']

/-- Settles O56: save reads the locations of the configuration block, restore zips them with the bytes of the file. -/
theorem saveRestoreRoundTrip : Obligations.SaveRestoreRoundTrip := by
  intro h image rest himage hrest
  refine ⟨?_, ?_⟩
  · rw [scriptSave, play_readAll (himage.trans (length_configLocations h).symm), configLocations_eq, List.map_map]
    rfl
  · have hcells : rest.length = ((configLocations h).zip image).length := by
      rw [List.length_zip, length_configLocations, himage, hrest, Nat.min_self]
    rw [scriptRestore, if_pos himage, play_writeAllCells hcells, zip_configLocations h himage, List.map_map]
    rfl

/-! ## A failed operation -/

/-- Scripts whose attempted operations come after the result is settled: an open result stands before an operation
that ends the command when it fails (R214, R216). -/
inductive FailsFast {α : Type} : Script α → Prop where
  | done (a : α) : FailsFast (.done a)
  | localError : FailsFast .localError
  | run (i : Instr) {rest : Byte → Script α} (h : ∀ v, FailsFast (rest v)) : FailsFast (.run i rest)
  | attempt (i : Instr) {rest : Script α} (h : ∀ outs, (play (.attempt i rest) outs).2 ≠ .unfinished) :
      FailsFast (.attempt i rest)
  | pause (ms : Nat) {rest : Script α} (h : FailsFast rest) : FailsFast (.pause ms rest)

/-- While the result is open, the next operation that fails ends the command (R216). -/
theorem FailsFast.play_failed {α : Type} {sc : Script α} (hsc : FailsFast sc) {outs : List (Status × Byte)}
    (hopen : (play sc outs).2 = .unfinished) {st : Status} (hst : st ≠ .ok) (v : Byte) (later : List (Status × Byte)) :
    play sc (outs ++ (st, v) :: later) = ((play sc outs).1, .failed st) := by
  induction hsc generalizing outs with
  | done a => rw [play_done] at hopen; cases hopen
  | localError => rw [play_localError] at hopen; cases hopen
  | run i _ ih =>
    rcases outs with _ | ⟨⟨st', v'⟩, outs⟩
    · exact play_run_failed i _ later v hst
    · by_cases hok : st' = .ok
      · subst hok
        rw [play_run_ok] at hopen
        rw [List.cons_append, play_run_ok, play_run_ok, ih v' hopen]
      · rw [play_run_failed _ _ _ _ hok] at hopen
        cases hopen
  | attempt i h => exact absurd hopen (h outs)
  | pause ms _ ih =>
    rw [play_pause] at hopen ⊢
    rw [play_pause, ih hopen]

theorem failsFast_readAll (locs soFar : List Byte) : FailsFast (readAll soFar locs) := by
  induction locs generalizing soFar with
  | nil => exact .done _
  | cons loc locs ih => exact .run _ fun v => ih _

theorem failsFast_writeAllCells (cells : List (Byte × Byte)) : FailsFast (writeAllCells cells) := by
  induction cells with
  | nil => exact .done _
  | cons c cells ih => exact .run _ fun _ => ih

/-- The result of powercycle is there before its closing writes (R214). -/
theorem failsFast_trySleep {α : Type} (a : α) : FailsFast (trySleep (.done a)) := by
  refine .attempt _ fun outs => ?_
  exact ne_of_eq_of_ne (play_trySleep_done outs a) nofun

theorem failsFast_displayWake {α : Type} {rest : Script α} (h : FailsFast rest) : FailsFast (displayWake rest) :=
  .run _ fun _ => .run _ fun _ => .run _ fun _ => h

theorem failsFast_displaySleep {α : Type} {rest : Script α} (h : FailsFast rest) : FailsFast (displaySleep rest) :=
  .run _ fun _ => .run _ fun _ => .run _ fun _ => h

theorem failsFast_selectChannel {α : Type} {rest : Script α} (h : FailsFast rest) (c : Byte) :
    FailsFast (selectChannel c rest) := .run _ fun _ => h

theorem failsFast_commandScript (h : HostConfig) (c : Command) : FailsFast (commandScript h c) := by
  cases c with
  | test | plversion | getday | batcapacity | state => exact .run _ fun _ => .done _
  | batvoltage => exact .run _ fun _ => .run _ fun _ => .done _
  | gettime | charge | load => exact .run _ fun _ => .run _ fun _ => .run _ fun _ => .done _
  | setdaytime clock =>
    cases clock with
    | none => exact .localError
    | some w => exact .run _ fun _ => .run _ fun _ => .run _ fun _ => .run _ fun _ => .done _
  | solvoltage =>
    exact failsFast_displayWake (failsFast_selectChannel (.pause _ (.run _ fun _ =>
      failsFast_selectChannel (failsFast_displaySleep (.done _)) _)) _)
  | save => exact failsFast_readAll _ _
  | restore file =>
    cases file with
    | none => exact .localError
    | some file =>
      show FailsFast (if file.length = configLen then writeAllCells ((configLocations h).zip file) else .localError)
      split
      · exact failsFast_writeAllCells _
      · exact .localError
  | powercycle => exact failsFast_displayWake (failsFast_selectChannel (.run _ fun _ => failsFast_trySleep _) _)

/-- Settles O57: every command is one of the scripts whose attempted operations come after the result. -/
theorem failedOperationEndsTheCommand : Obligations.FailedOperationEndsTheCommand :=
  fun h c _ later _ v hst hopen => (failsFast_commandScript h c).play_failed hopen hst v later

/-! ## powercycle -/

/-- The three sleep writes are attempted one after the other, one more than have an outcome (R214). -/
theorem play_trySleep_fst {α : Type} (a : α) (outs : List (Status × Byte)) :
    (play (trySleep (.done a)) outs).1 = (List.replicate 3 (Instr.writeReg 0x29 0x10)).take (outs.length + 1) := by
  match outs with
  | [] | [_] | [_, _] => rfl
  | _ :: _ :: _ :: outs => simp [trySleep, List.replicate]

/-- The five operations of powercycle up to LONG_PUSH (R214). -/
theorem play_powercycle {first : List (Status × Byte)} (hlen : first.length = 5) (hok : ∀ o ∈ first, o.1 = .ok)
    (closing : List (Status × Byte)) :
    play scriptPowercycle (first ++ closing) =
      (List.replicate 3 (Instr.writeReg 0x29 0x00) ++ [.writeReg 0x66 0x17, .longPush] ++
        (play (trySleep (.done Report.nothing)) closing).1, .done .nothing) := by
  have hfirst : first = (first.map Prod.snd).map fun v => (.ok, v) := by
    rw [List.map_map]
    exact (List.map_id first).symm.trans (List.map_congr_left fun o ho => Prod.ext (hok o ho) rfl)
  rw [hfirst]
  match first.map Prod.snd, (List.length_map _).trans hlen with
  | [v₁, v₂, v₃, v₄, v₅], _ =>
    simp [scriptPowercycle, displayWake, selectChannel, play_trySleep_done, List.replicate]

/-- Settles O58: after the five operations the result is settled; the sleep writes are those attempted, and a host
that stops has started as many of them as have an outcome. -/
theorem powercycleSurvivesItsSleepWrites : Obligations.PowercycleSurvivesItsSleepWrites := by
  intro h first closing hlen hok sequence sleep
  have hplay : play (commandScript h .powercycle) (first ++ closing) =
      (sequence ++ sleep.take (closing.length + 1), .done .nothing) := by
    rw [← play_trySleep_fst Report.nothing]
    exact play_powercycle hlen hok closing
  refine ⟨hplay, ?_, by rw [hplay]; rfl⟩
  rw [stopAfter, hplay, List.length_append, hlen]
  refine Prod.ext ?_ rfl
  show (sequence ++ sleep.take (closing.length + 1)).take (sequence.length + closing.length) = _
  rw [List.take_length_add_append, List.take_take, Nat.min_eq_left (Nat.le_succ _)]

end Sys2Proof.Machine
end
